-- ==== Sys2Proof/Word.lean ====
section
/-! DEFINITION. The word types of QRSE: 32-bit bus words and registers, bytes (codewords, field
elements, buffer bytes) and 16-bit host byte addresses (spec 00_scope.md R8, 20_memory.md R47). -/

namespace Sys2Proof

/-- A host bus word, a register as the host sees it, a command word (R18, R47, R67). -/
abbrev Word := BitVec 32

/-- A codeword, a buffer byte, an element of GF(256) (R9, R11). -/
abbrev Byte := BitVec 8

/-- A host byte address within the QRSE address space (R47). -/
abbrev Addr := BitVec 16

end Sys2Proof
end

