-- ==== Sys2Proof/Syntax.lean ====
section
/-! DEFINITION. The 16 commands of QRSE-CMD revision 1, one constructor per row of the opcode table
(spec 30_encoding.md R70). The operands are the fields of the command word a command uses, at their
width (R68, R69); every other operand is implicit and is read from registers at execution. -/

namespace Sys2Proof

/-- A command. -/
inductive Instr where
  /-- `NOP` (R129). -/
  | nop
  /-- `GFADD`: field addition (R79). -/
  | gfadd
  /-- `GFMUL`: field multiplication (R80). -/
  | gfmul
  /-- `GFEXP`: power of α (R81). -/
  | gfexp
  /-- `GFLOG`: discrete logarithm base α (R82). -/
  | gflog
  /-- `RSGEN n`: generator polynomial of degree N (R90). -/
  | rsgen (n : BitVec 8)
  /-- `RSENC n, k`: N EC codewords of one block of K data codewords (R91). -/
  | rsenc (n k : BitVec 8)
  /-- `ECCODE`: the whole Error Correction Coder (R92). -/
  | eccode
  /-- `MINIT`: initialise the matrix (R93). -/
  | minit
  /-- `MFUNC`: place function patterns (R103). -/
  | mfunc
  /-- `MDATA`: place codewords (R106). -/
  | mdata
  /-- `MSCORE m`: score mask M (R122). -/
  | mscore (m : BitVec 3)
  /-- `MEVAL`: score all masks and select (R123). -/
  | meval
  /-- `MAPPLY m`: apply mask M permanently (R124). -/
  | mapply (m : BitVec 3)
  /-- `MAPSEL`: apply the selected mask (R125). -/
  | mapsel
  /-- `ENCODE`: Error Correction Coder plus Matrix Placer and Masker (R131). -/
  | encode
  deriving DecidableEq, Repr

end Sys2Proof
end

