-- ==== Sys2Proof/WellFormed.lean ====
section
/-! DEFINITION. Well-formed command words, by fields. Format C (spec 30_encoding.md R68) has five
fields; a word is well-formed when its OP is one of the 16 of R70, its reserved field Z is 0 and every
field its command does not use is 0 (R69, R71, R72). The decoder of Decode.lean works by match and
mask instead; that the two agree is a statement. -/

namespace Sys2Proof

/-- The fields of format C (R68). -/
structure CmdFields where
  op : BitVec 8
  m : BitVec 3
  z : BitVec 5
  n : BitVec 8
  k : BitVec 8
  deriving DecidableEq, Repr

namespace CmdFields

/-- The fields of a command word (R68): K at 31:24, N at 23:16, Z at 15:11, M at 10:8, OP at 7:0. -/
def ofWord (w : Word) : CmdFields where
  op := w.extractLsb' 0 8
  m := w.extractLsb' 8 3
  z := w.extractLsb' 11 5
  n := w.extractLsb' 16 8
  k := w.extractLsb' 24 8

/-- The word laid out as the drawing of R68. -/
def toWord (f : CmdFields) : Word := f.k ++ f.n ++ f.z ++ f.m ++ f.op

/-- The OP values of R70. -/
def definedOps : List (BitVec 8) :=
  [0x00, 0x10, 0x11, 0x12, 0x13, 0x20, 0x21, 0x22, 0x30, 0x31, 0x32, 0x40, 0x41, 0x42, 0x43, 0x50]

/-- OP is one of the 16 defined values (R72). -/
def opDefined (f : CmdFields) : Bool := definedOps.contains f.op

/-- MSCORE and MAPPLY use M (R70). -/
def usesM (f : CmdFields) : Bool := f.op == 0x40 || f.op == 0x42

/-- RSGEN and RSENC use N (R70). -/
def usesN (f : CmdFields) : Bool := f.op == 0x20 || f.op == 0x21

/-- RSENC uses K (R70). -/
def usesK (f : CmdFields) : Bool := f.op == 0x21

/-- Every check of R71 and R72: a defined OP, Z = 0, and 0 in each field the command does not use. -/
def wellFormed (f : CmdFields) : Bool :=
  f.opDefined && f.z == 0 && (f.usesM || f.m == 0) && (f.usesN || f.n == 0) && (f.usesK || f.k == 0)

end CmdFields

/-- The fields a command's word carries (R70). -/
def Instr.fields : Instr → CmdFields
  | .nop => ⟨0x00, 0, 0, 0, 0⟩
  | .gfadd => ⟨0x10, 0, 0, 0, 0⟩
  | .gfmul => ⟨0x11, 0, 0, 0, 0⟩
  | .gfexp => ⟨0x12, 0, 0, 0, 0⟩
  | .gflog => ⟨0x13, 0, 0, 0, 0⟩
  | .rsgen n => ⟨0x20, 0, 0, n, 0⟩
  | .rsenc n k => ⟨0x21, 0, 0, n, k⟩
  | .eccode => ⟨0x22, 0, 0, 0, 0⟩
  | .minit => ⟨0x30, 0, 0, 0, 0⟩
  | .mfunc => ⟨0x31, 0, 0, 0, 0⟩
  | .mdata => ⟨0x32, 0, 0, 0, 0⟩
  | .mscore m => ⟨0x40, m, 0, 0, 0⟩
  | .meval => ⟨0x41, 0, 0, 0, 0⟩
  | .mapply m => ⟨0x42, m, 0, 0, 0⟩
  | .mapsel => ⟨0x43, 0, 0, 0, 0⟩
  | .encode => ⟨0x50, 0, 0, 0, 0⟩

/-- A command is well-formed when its fields are. Operands stand in `Instr` at the width of their
field, so every command is (Laws/PerInstr.lean proves it): a value a command does not accept, such as
N = 0, is no encoding error (R71). -/
def Instr.wellFormed (i : Instr) : Bool := i.fields.wellFormed

end Sys2Proof
end

