-- ==== Sys2Proof/Decode.lean ====
section
/-! DEFINITION. Decoding and encoding command words (spec 30_encoding.md R67 to R72). The opcode map
of R70 is one table of match, mask and operand assembly; decoding is R71, total on all 2^32 words,
and rejects by name. -/

namespace Sys2Proof

/-- OP of a command word: w[7:0] (R68). -/
def opField (w : Word) : BitVec 8 := w.extractLsb' 0 8

/-- M of a command word: w[10:8] (R69). -/
def mField (w : Word) : BitVec 3 := w.extractLsb' 8 3

/-- N of a command word: w[23:16] (R69). -/
def nField (w : Word) : BitVec 8 := w.extractLsb' 16 8

/-- K of a command word: w[31:24] (R69). -/
def kField (w : Word) : BitVec 8 := w.extractLsb' 24 8

/-- A row of the opcode map (R70). `fixedBits` is the column "match". -/
structure OpRow where
  mnemonic : String
  fixedBits : Word
  mask : Word
  build : Word → Instr

/-- The column OP of a row (R70). -/
def OpRow.op (r : OpRow) : BitVec 8 := opField r.fixedBits

/-- The 16 rows of R70, in the table's order. -/
def opcodeTable : List OpRow :=
  [ ⟨"NOP",    0x00000000, 0xFFFFFFFF, fun _ => .nop⟩,
    ⟨"GFADD",  0x00000010, 0xFFFFFFFF, fun _ => .gfadd⟩,
    ⟨"GFMUL",  0x00000011, 0xFFFFFFFF, fun _ => .gfmul⟩,
    ⟨"GFEXP",  0x00000012, 0xFFFFFFFF, fun _ => .gfexp⟩,
    ⟨"GFLOG",  0x00000013, 0xFFFFFFFF, fun _ => .gflog⟩,
    ⟨"RSGEN",  0x00000020, 0xFF00FFFF, fun w => .rsgen (nField w)⟩,
    ⟨"RSENC",  0x00000021, 0x0000FFFF, fun w => .rsenc (nField w) (kField w)⟩,
    ⟨"ECCODE", 0x00000022, 0xFFFFFFFF, fun _ => .eccode⟩ ] ++
  [ ⟨"MINIT",  0x00000030, 0xFFFFFFFF, fun _ => .minit⟩,
    ⟨"MFUNC",  0x00000031, 0xFFFFFFFF, fun _ => .mfunc⟩,
    ⟨"MDATA",  0x00000032, 0xFFFFFFFF, fun _ => .mdata⟩,
    ⟨"MSCORE", 0x00000040, 0xFFFFF8FF, fun w => .mscore (mField w)⟩,
    ⟨"MEVAL",  0x00000041, 0xFFFFFFFF, fun _ => .meval⟩,
    ⟨"MAPPLY", 0x00000042, 0xFFFFF8FF, fun w => .mapply (mField w)⟩,
    ⟨"MAPSEL", 0x00000043, 0xFFFFFFFF, fun _ => .mapsel⟩,
    ⟨"ENCODE", 0x00000050, 0xFFFFFFFF, fun _ => .encode⟩ ]

/-- Why a word is no command; either raises BADOP (R71, R72). -/
inductive DecodeError where
  /-- OP is not in the opcode map. -/
  | reservedOp (op : BitVec 8)
  /-- OP is in the map, and a bit outside the fields its command uses is set. -/
  | unusedFieldSet (op : BitVec 8)
  deriving DecidableEq, Repr

/-- The row of the opcode map with this OP (R71, first check). -/
def rowOfOp (op : BitVec 8) : Option OpRow := opcodeTable.find? fun r => r.op == op

/-- Decoding a command word (R71). -/
def decode (w : Word) : Except DecodeError Instr :=
  match rowOfOp (opField w) with
  | none => .error (.reservedOp (opField w))
  | some r => if w &&& r.mask = r.fixedBits then .ok (r.build w) else .error (.unusedFieldSet (opField w))

/-- The column "match" of a command's row (R70). -/
def Instr.fixedBits : Instr → Word
  | .nop => 0x00000000
  | .gfadd => 0x00000010
  | .gfmul => 0x00000011
  | .gfexp => 0x00000012
  | .gflog => 0x00000013
  | .rsgen _ => 0x00000020
  | .rsenc _ _ => 0x00000021
  | .eccode => 0x00000022
  | .minit => 0x00000030
  | .mfunc => 0x00000031
  | .mdata => 0x00000032
  | .mscore _ => 0x00000040
  | .meval => 0x00000041
  | .mapply _ => 0x00000042
  | .mapsel => 0x00000043
  | .encode => 0x00000050

/-- OP of a command (R70). -/
def Instr.op (i : Instr) : BitVec 8 := opField i.fixedBits

/-- The operand field M of a command, 0 where it uses none (R69). -/
def Instr.operandM : Instr → BitVec 3
  | .mscore m => m
  | .mapply m => m
  | _ => 0

/-- The operand field N of a command, 0 where it uses none (R69). -/
def Instr.operandN : Instr → BitVec 8
  | .rsgen n => n
  | .rsenc n _ => n
  | _ => 0

/-- The operand field K of a command, 0 where it uses none (R69). -/
def Instr.operandK : Instr → BitVec 8
  | .rsenc _ k => k
  | _ => 0

/-- The word of a command: `match | (M << 8) | (N << 16) | (K << 24)` (R70). -/
def encode (i : Instr) : Word :=
  i.fixedBits ||| (i.operandM.setWidth 32 <<< 8) ||| (i.operandN.setWidth 32 <<< 16) |||
    (i.operandK.setWidth 32 <<< 24)

/-- The mnemonic of a command (R70, R73). -/
def Instr.mnemonic : Instr → String
  | .nop => "NOP"
  | .gfadd => "GFADD"
  | .gfmul => "GFMUL"
  | .gfexp => "GFEXP"
  | .gflog => "GFLOG"
  | .rsgen _ => "RSGEN"
  | .rsenc _ _ => "RSENC"
  | .eccode => "ECCODE"
  | .minit => "MINIT"
  | .mfunc => "MFUNC"
  | .mdata => "MDATA"
  | .mscore _ => "MSCORE"
  | .meval => "MEVAL"
  | .mapply _ => "MAPPLY"
  | .mapsel => "MAPSEL"
  | .encode => "ENCODE"

/-- The assembler text of a command: the mnemonic, then the operands in the order of the column
"syntax" of R70, separated by ", " (R73). -/
def Instr.text (i : Instr) : String :=
  match i with
  | .rsgen n => i.mnemonic ++ " " ++ toString n.toNat
  | .rsenc n k => i.mnemonic ++ " " ++ toString n.toNat ++ ", " ++ toString k.toNat
  | .mscore m => i.mnemonic ++ " " ++ toString m.toNat
  | .mapply m => i.mnemonic ++ " " ++ toString m.toNat
  | _ => i.mnemonic

/-- What the decoder reads from a table word: a QRSE command is exactly one 32-bit word (R67), so the
`nbits` given bits of `w` are its low bits and the bits above them are 0. -/
def decodeTableWord (nbits w : Nat) : Option Instr :=
  match decode (BitVec.ofNat 32 (w % 2 ^ nbits)) with
  | .ok i => some i
  | .error _ => none

end Sys2Proof
end

