-- ==== Sys2Proof/Config.lean ====
section
/-! DEFINITION. The free values of the spec: constants with no body, so that no proof can use a value
of theirs and every statement holds whatever they are. Each is applied to plain data (a counter in
State, an address, a position). -/

namespace Sys2Proof

/-- The byte that power-on leaves at host address `addr` of a buffer, after hardware reset number
`epoch`: unspecified, drawn once, kept until written (spec 70_reset_and_hazards.md R148,
93_implementation_defined.md U1; DESIGN CHOICE, log entry 2). -/
opaque Config.powerOnByte (epoch addr : Nat) : Byte

/-- The bits FUNC, SET, DARK (bit 2, bit 1, bit 0) that power-on leaves in cell (`r`, `c`) of MAT
after hardware reset number `epoch`: any record may be drawn (R148, U1; DESIGN CHOICE, log entry 3). -/
opaque Config.powerOnCell (epoch r c : Nat) : BitVec 3

/-- The value that draw number `n` gives to a host read of a location in the pending command's write
set, or of STATUS's CWV, MSTAGE, SELV and LASTOP, while BUSY = 1: unconstrained, fresh at each read
(20_memory.md R58, U2, U3; DESIGN CHOICE, log entry 6). -/
opaque Config.busyDraw (n : Nat) : Word

/-- The entry GF_LOG[0] of the logarithm table: undefined, and read by no command (10_state.md R40;
DESIGN CHOICE, log entry 7). -/
opaque Config.gfLogZero : Nat

/-- QRSE_BASE in units of 64 KiB: where QRSE sits in the host's own address space, an OPEN parameter of
the platform (20_memory.md R59, 93_implementation_defined.md U13; DESIGN CHOICE, log entry 9). -/
opaque Config.qrseBaseUnit : Nat

/-- The address in the host's own space of a QRSE address: QRSE_BASE, a 64 KiB-aligned address, plus
the address of the table of R59. No other definition depends on it. -/
def Config.platformAddress (a : Addr) : Nat := 65536 * Config.qrseBaseUnit + a.toNat

end Sys2Proof
end

