-- ==== Sys2Proof/Machine/State.lean ====
section
/-! DEFINITION. The state of QRSE as plain data: every register field, flag and latch of spec
10_state.md, the buffers and the matrix, and four fields of the model's own (`agenda`, `resp`, `epoch`,
`draws`). Reserved bits are not stored: they read 0 and ignore writes (R18; DEDUCED, log entry 10); Machine/Flags.lean packs
the fields into the words a host sees. -/

namespace Sys2Proof.Machine

/-- A matrix cell, a record of three bits (R35). -/
structure MCell where
  /-- 1 when the cell holds a colour. -/
  set : Bool
  /-- 1 = dark, 0 = light. -/
  dark : Bool
  /-- 1 when the cell is a function or reserved cell. -/
  func : Bool
  deriving DecidableEq, Repr

/-- A cell from its byte: bit 0 = DARK, bit 1 = SET, bit 2 = FUNC (R36). -/
def MCell.ofBits (b : BitVec 3) : MCell := ⟨b.getLsbD 1, b.getLsbD 0, b.getLsbD 2⟩

/-- The unset cell {SET 0, DARK 0, FUNC 0} (R35). -/
def MCell.unset : MCell := ⟨false, false, false⟩

/-- The rows of a matrix of cells, row 0 first, column 0 first in each (R10, R35). -/
abbrev Mat := List (List MCell)

/-- The bytes written since power-on, by host address: addresses strictly rising, one entry each. A
byte that is not listed has not been written and reads as power-on left it (R34, R148; DESIGN CHOICE, log entry 2). -/
abbrev Memory := List Host.Cell

/-- The stored fields of STATUS (R21). BUSY is not here: it is 1 exactly while PENDCMD holds a command
(R37, R46; DEDUCED, log entry 1). -/
structure Status where
  done : Bool
  err : Bool
  berr : Bool
  cwv : Bool
  mstage : BitVec 3
  selv : Bool
  ecode : BitVec 4
  bcode : BitVec 4
  lastop : BitVec 8
  deriving DecidableEq, Repr

/-- STATUS = 0 (R147). -/
def Status.zero : Status := ⟨false, false, false, false, 0, false, 0, 0, 0⟩

/-- CFG (R23). -/
structure Cfg where
  version : BitVec 6
  level : BitVec 2
  deriving DecidableEq, Repr

/-- MASKSEL (R28). -/
structure MaskSel where
  sel : BitVec 3
  applied : BitVec 3
  pdm : BitVec 3
  deriving DecidableEq, Repr

/-- One host bus access, always of a whole word (20_memory.md R47). -/
inductive Access where
  /-- `HostWrite(addr, data)`. -/
  | write (addr : Addr) (data : Word)
  /-- `HostRead(addr)`. -/
  | read (addr : Addr)
  deriving DecidableEq, Repr

/-- What an access gives back: `data` and `ok` (R47). -/
structure BusResp where
  data : Word
  ok : Bool
  deriving DecidableEq, Repr

/-- One turn of the total order of R62: the host makes an access, or the core takes its step if a
command is pending, or the reset input is asserted (R147). -/
inductive Turn where
  | host (a : Access)
  | core
  | hardReset
  deriving DecidableEq, Repr

/-- The state of the machine. -/
structure State where
  /-- STATUS, but for BUSY (R21). -/
  status : Status
  /-- CTRL.IE (R22). -/
  ie : Bool
  /-- CFG (R23). -/
  cfg : Cfg
  /-- DLEN (R24). -/
  dlen : BitVec 12
  /-- GF_A, GF_B and GF_RES (R25). -/
  gfA : Byte
  gfB : Byte
  gfRes : Byte
  /-- NTOTAL, NDATA, BLOCKS and REMBITS (R26). -/
  ntotal : BitVec 12
  ndata : BitVec 12
  blocks : Word
  remBits : BitVec 3
  /-- SIDE (R27). -/
  side : BitVec 8
  /-- MASKSEL (R28). -/
  maskSel : MaskSel
  /-- PENVALID (R29). -/
  penvalid : BitVec 8
  /-- FMTBITS and VERBITS (R30). -/
  fmtBits : BitVec 15
  verBits : BitVec 18
  /-- PEN0..PEN7 (R29). -/
  pen : Vector Word 8
  /-- PD1..PD4 (R29). -/
  pd1 : Word
  pd2 : Word
  pd3 : Word
  pd4 : Word
  /-- PENDCMD: the command word between its issue and its execution (R37); none when empty. -/
  pendcmd : Option Word
  /-- The written bytes of DATA_BUF, ECC_BUF, GEN_BUF and CW_BUF, by host address (R34, R59). -/
  mem : Memory
  /-- MAT (R34, R35). -/
  mat : Mat
  /-- The model's own: the turns still to come, oldest first (R62, U4; DESIGN CHOICE, log entry 4). -/
  agenda : List Turn
  /-- The model's own: what the last host access gave back (R47; DESIGN CHOICE, log entry 5). -/
  resp : Option BusResp
  /-- The model's own: how many hardware resets there have been (R148; DESIGN CHOICE, log entry 2). -/
  epoch : Nat
  /-- The model's own: how many draws reads have made while BUSY = 1 (R58; DESIGN CHOICE, log entry 6). -/
  draws : Nat
  deriving DecidableEq, Repr

/-- Why the machine stops with a fault. There is no reason: "No behaviour of QRSE is a stuck state or a
refusal of the model: every word and every access has a defined outcome" (R158). Failed accesses are
bus errors and bad commands command errors, both ordinary next states. -/
inductive Fault where
  deriving DecidableEq, Repr

/-- Why the model has no meaning for an instruction. -/
inductive Refusal where
  /-- Raised by an arm of `exec` whose instruction has no meaning yet; no arm raises it. Safe: the
  model stops. -/
  | notModelled (mnemonic : String)
  deriving DecidableEq, Repr

/-- MAT as hardware reset number `epoch` leaves it: each cell drawn once (R148; DESIGN CHOICE, log entry 3). -/
def powerOnMat (epoch : Nat) : Mat :=
  (List.range 177).map fun r => (List.range 177).map fun c => MCell.ofBits (Config.powerOnCell epoch r c)

/-- The machine right after hardware reset (R46, R147, R148): every register 0, PENDCMD empty, the
buffers and MAT as drawn. The model's own fields: nothing to do, no access made, counters 0. -/
def State.reset : State where
  status := Status.zero
  ie := false
  cfg := ⟨0, 0⟩
  dlen := 0
  gfA := 0
  gfB := 0
  gfRes := 0
  ntotal := 0
  ndata := 0
  blocks := 0
  remBits := 0
  side := 0
  maskSel := ⟨0, 0, 0⟩
  penvalid := 0
  fmtBits := 0
  verBits := 0
  pen := Vector.replicate 8 0
  pd1 := 0
  pd2 := 0
  pd3 := 0
  pd4 := 0
  pendcmd := none
  mem := []
  mat := powerOnMat 0
  agenda := []
  resp := none
  epoch := 0
  draws := 0

end Sys2Proof.Machine
end

