-- ==== Sys2Proof/Machine/Tables.lean ====
section
/-! DEFINITION. The fixed numbers of QRSE: the parameters of spec 00_scope.md R7 at the values of its
table (DESIGN CHOICE, log entry 15) and the read-only
tables of 10_state.md R39 to R44. Nothing writes them and reset does not change them (R39, R147). -/

namespace Sys2Proof.Machine

/-- VMIN and VMAX (R7). -/
def vMin : Nat := 1
def vMax : Nat := 40

/-- SIDE(V) = 4·V + 17 (R7). -/
def sideOf (v : Nat) : Nat := 4 * v + 17

/-- MAXSIDE = SIDE(40): MAT has this many rows and columns (R7). -/
def maxSide : Nat := 177

/-- NMASKS (R7). -/
def nMasks : Nat := 8

/-- The buffer sizes in bytes (R7, R34). -/
def dataBufSize : Nat := 4096
def cwBufSize : Nat := 4096
def eccBufSize : Nat := 256
def genBufSize : Nat := 256

/-- The first host addresses of the buffers and of the MAT window (20_memory.md R59). -/
def dataBase : Nat := 0x1000
def eccBase : Nat := 0x2000
def genBase : Nat := 0x2100
def cwBase : Nat := 0x3000
def matBase : Nat := 0x8000

/-- The cells of MAT, one byte each in the window (R7, R36). -/
def matCells : Nat := 31329

/-- RS_NMAX and RS_LEN_MAX, the operand bounds of RSGEN and RSENC (R7). -/
def rsNMax : Nat := 254
def rsLenMax : Nat := 255

/-- The penalty constants PEN_N1 to PEN_N4 (R7). -/
def penN1 : Nat := 3
def penN2 : Nat := 3
def penN3 : Nat := 40
def penN4 : Nat := 10

/-- The constants ID and REV (R19). -/
def idConst : Word := 0x51525345
def revConst : Word := 0x00000001

/-- GF_EXP[i] = α^i for i = 0..254, the table of R40. -/
def gfExpTable : List Byte :=
  [ 0x01, 0x02, 0x04, 0x08, 0x10, 0x20, 0x40, 0x80, 0x1D, 0x3A, 0x74, 0xE8, 0xCD, 0x87, 0x13, 0x26,
    0x4C, 0x98, 0x2D, 0x5A, 0xB4, 0x75, 0xEA, 0xC9, 0x8F, 0x03, 0x06, 0x0C, 0x18, 0x30, 0x60, 0xC0,
    0x9D, 0x27, 0x4E, 0x9C, 0x25, 0x4A, 0x94, 0x35, 0x6A, 0xD4, 0xB5, 0x77, 0xEE, 0xC1, 0x9F, 0x23,
    0x46, 0x8C, 0x05, 0x0A, 0x14, 0x28, 0x50, 0xA0, 0x5D, 0xBA, 0x69, 0xD2, 0xB9, 0x6F, 0xDE, 0xA1 ] ++
  [ 0x5F, 0xBE, 0x61, 0xC2, 0x99, 0x2F, 0x5E, 0xBC, 0x65, 0xCA, 0x89, 0x0F, 0x1E, 0x3C, 0x78, 0xF0,
    0xFD, 0xE7, 0xD3, 0xBB, 0x6B, 0xD6, 0xB1, 0x7F, 0xFE, 0xE1, 0xDF, 0xA3, 0x5B, 0xB6, 0x71, 0xE2,
    0xD9, 0xAF, 0x43, 0x86, 0x11, 0x22, 0x44, 0x88, 0x0D, 0x1A, 0x34, 0x68, 0xD0, 0xBD, 0x67, 0xCE,
    0x81, 0x1F, 0x3E, 0x7C, 0xF8, 0xED, 0xC7, 0x93, 0x3B, 0x76, 0xEC, 0xC5, 0x97, 0x33, 0x66, 0xCC ] ++
  [ 0x85, 0x17, 0x2E, 0x5C, 0xB8, 0x6D, 0xDA, 0xA9, 0x4F, 0x9E, 0x21, 0x42, 0x84, 0x15, 0x2A, 0x54,
    0xA8, 0x4D, 0x9A, 0x29, 0x52, 0xA4, 0x55, 0xAA, 0x49, 0x92, 0x39, 0x72, 0xE4, 0xD5, 0xB7, 0x73,
    0xE6, 0xD1, 0xBF, 0x63, 0xC6, 0x91, 0x3F, 0x7E, 0xFC, 0xE5, 0xD7, 0xB3, 0x7B, 0xF6, 0xF1, 0xFF,
    0xE3, 0xDB, 0xAB, 0x4B, 0x96, 0x31, 0x62, 0xC4, 0x95, 0x37, 0x6E, 0xDC, 0xA5, 0x57, 0xAE, 0x41 ] ++
  [ 0x82, 0x19, 0x32, 0x64, 0xC8, 0x8D, 0x07, 0x0E, 0x1C, 0x38, 0x70, 0xE0, 0xDD, 0xA7, 0x53, 0xA6,
    0x51, 0xA2, 0x59, 0xB2, 0x79, 0xF2, 0xF9, 0xEF, 0xC3, 0x9B, 0x2B, 0x56, 0xAC, 0x45, 0x8A, 0x09,
    0x12, 0x24, 0x48, 0x90, 0x3D, 0x7A, 0xF4, 0xF5, 0xF7, 0xF3, 0xFB, 0xEB, 0xCB, 0x8B, 0x0B, 0x16,
    0x2C, 0x58, 0xB0, 0x7D, 0xFA, 0xE9, 0xCF, 0x83, 0x1B, 0x36, 0x6C, 0xD8, 0xAD, 0x47, 0x8E ]

/-- GF_LOG[a], the i with α^i = a, for a = 0..255, the table of R40. Entry 0 is undefined: a free value
that no command reads (R82, DESIGN CHOICE, log entry 7). -/
def gfLogTable : List Nat :=
  [ Config.gfLogZero, 0, 1, 25, 2, 50, 26, 198, 3, 223, 51, 238, 27, 104, 199, 75,
    4, 100, 224, 14, 52, 141, 239, 129, 28, 193, 105, 248, 200, 8, 76, 113,
    5, 138, 101, 47, 225, 36, 15, 33, 53, 147, 142, 218, 240, 18, 130, 69,
    29, 181, 194, 125, 106, 39, 249, 185, 201, 154, 9, 120, 77, 228, 114, 166 ] ++
  [ 6, 191, 139, 98, 102, 221, 48, 253, 226, 152, 37, 179, 16, 145, 34, 136,
    54, 208, 148, 206, 143, 150, 219, 189, 241, 210, 19, 92, 131, 56, 70, 64,
    30, 66, 182, 163, 195, 72, 126, 110, 107, 58, 40, 84, 250, 133, 186, 61,
    202, 94, 155, 159, 10, 21, 121, 43, 78, 212, 229, 172, 115, 243, 167, 87 ] ++
  [ 7, 112, 192, 247, 140, 128, 99, 13, 103, 74, 222, 237, 49, 197, 254, 24,
    227, 165, 153, 119, 38, 184, 180, 124, 17, 68, 146, 217, 35, 32, 137, 46,
    55, 63, 209, 91, 149, 188, 207, 205, 144, 135, 151, 178, 220, 252, 190, 97,
    242, 86, 211, 171, 20, 42, 93, 158, 132, 60, 57, 83, 71, 109, 65, 162 ] ++
  [ 31, 45, 67, 216, 183, 123, 164, 118, 196, 23, 73, 236, 127, 12, 111, 246,
    108, 161, 59, 82, 41, 157, 85, 170, 251, 96, 134, 177, 187, 204, 62, 90,
    203, 89, 95, 176, 156, 169, 160, 81, 11, 245, 22, 235, 122, 117, 44, 215,
    79, 174, 213, 233, 230, 231, 173, 232, 116, 214, 244, 234, 168, 80, 88, 175 ]

/-- A row of the block-structure table (R41). ND2 = ND1 + 1 and SIDE are not stored. -/
structure BlockRow where
  ntotal : Nat
  nec : Nat
  nb1 : Nat
  nd1 : Nat
  nb2 : Nat
  ndata : Nat
  remBits : Nat
  deriving DecidableEq, Repr

/-- What a lookup outside the table gives; no command looks there (each checks V first, R92;
DESIGN CHOICE, log entry 13). -/
def BlockRow.absent : BlockRow := ⟨0, 0, 0, 0, 0, 0, 0⟩

/-- The block-structure table of R41: for V = 1..40 the rows of L, M, Q, H (LEVEL codes 0..3). -/
def blockTable : List (List BlockRow) :=
  [ [⟨26, 7, 1, 19, 0, 19, 0⟩, ⟨26, 10, 1, 16, 0, 16, 0⟩,
     ⟨26, 13, 1, 13, 0, 13, 0⟩, ⟨26, 17, 1, 9, 0, 9, 0⟩],
    [⟨44, 10, 1, 34, 0, 34, 7⟩, ⟨44, 16, 1, 28, 0, 28, 7⟩,
     ⟨44, 22, 1, 22, 0, 22, 7⟩, ⟨44, 28, 1, 16, 0, 16, 7⟩],
    [⟨70, 15, 1, 55, 0, 55, 7⟩, ⟨70, 26, 1, 44, 0, 44, 7⟩,
     ⟨70, 18, 2, 17, 0, 34, 7⟩, ⟨70, 22, 2, 13, 0, 26, 7⟩],
    [⟨100, 20, 1, 80, 0, 80, 7⟩, ⟨100, 18, 2, 32, 0, 64, 7⟩,
     ⟨100, 26, 2, 24, 0, 48, 7⟩, ⟨100, 16, 4, 9, 0, 36, 7⟩],
    [⟨134, 26, 1, 108, 0, 108, 7⟩, ⟨134, 24, 2, 43, 0, 86, 7⟩,
     ⟨134, 18, 2, 15, 2, 62, 7⟩, ⟨134, 22, 2, 11, 2, 46, 7⟩],
    [⟨172, 18, 2, 68, 0, 136, 7⟩, ⟨172, 16, 4, 27, 0, 108, 7⟩,
     ⟨172, 24, 4, 19, 0, 76, 7⟩, ⟨172, 28, 4, 15, 0, 60, 7⟩],
    [⟨196, 20, 2, 78, 0, 156, 0⟩, ⟨196, 18, 4, 31, 0, 124, 0⟩,
     ⟨196, 18, 2, 14, 4, 88, 0⟩, ⟨196, 26, 4, 13, 1, 66, 0⟩],
    [⟨242, 24, 2, 97, 0, 194, 0⟩, ⟨242, 22, 2, 38, 2, 154, 0⟩,
     ⟨242, 22, 4, 18, 2, 110, 0⟩, ⟨242, 26, 4, 14, 2, 86, 0⟩],
    [⟨292, 30, 2, 116, 0, 232, 0⟩, ⟨292, 22, 3, 36, 2, 182, 0⟩,
     ⟨292, 20, 4, 16, 4, 132, 0⟩, ⟨292, 24, 4, 12, 4, 100, 0⟩],
    [⟨346, 18, 2, 68, 2, 274, 0⟩, ⟨346, 26, 4, 43, 1, 216, 0⟩,
     ⟨346, 24, 6, 19, 2, 154, 0⟩, ⟨346, 28, 6, 15, 2, 122, 0⟩] ] ++
  [ [⟨404, 20, 4, 81, 0, 324, 0⟩, ⟨404, 30, 1, 50, 4, 254, 0⟩,
     ⟨404, 28, 4, 22, 4, 180, 0⟩, ⟨404, 24, 3, 12, 8, 140, 0⟩],
    [⟨466, 24, 2, 92, 2, 370, 0⟩, ⟨466, 22, 6, 36, 2, 290, 0⟩,
     ⟨466, 26, 4, 20, 6, 206, 0⟩, ⟨466, 28, 7, 14, 4, 158, 0⟩],
    [⟨532, 26, 4, 107, 0, 428, 0⟩, ⟨532, 22, 8, 37, 1, 334, 0⟩,
     ⟨532, 24, 8, 20, 4, 244, 0⟩, ⟨532, 22, 12, 11, 4, 180, 0⟩],
    [⟨581, 30, 3, 115, 1, 461, 3⟩, ⟨581, 24, 4, 40, 5, 365, 3⟩,
     ⟨581, 20, 11, 16, 5, 261, 3⟩, ⟨581, 24, 11, 12, 5, 197, 3⟩],
    [⟨655, 22, 5, 87, 1, 523, 3⟩, ⟨655, 24, 5, 41, 5, 415, 3⟩,
     ⟨655, 30, 5, 24, 7, 295, 3⟩, ⟨655, 24, 11, 12, 7, 223, 3⟩],
    [⟨733, 24, 5, 98, 1, 589, 3⟩, ⟨733, 28, 7, 45, 3, 453, 3⟩,
     ⟨733, 24, 15, 19, 2, 325, 3⟩, ⟨733, 30, 3, 15, 13, 253, 3⟩],
    [⟨815, 28, 1, 107, 5, 647, 3⟩, ⟨815, 28, 10, 46, 1, 507, 3⟩,
     ⟨815, 28, 1, 22, 15, 367, 3⟩, ⟨815, 28, 2, 14, 17, 283, 3⟩],
    [⟨901, 30, 5, 120, 1, 721, 3⟩, ⟨901, 26, 9, 43, 4, 563, 3⟩,
     ⟨901, 28, 17, 22, 1, 397, 3⟩, ⟨901, 28, 2, 14, 19, 313, 3⟩],
    [⟨991, 28, 3, 113, 4, 795, 3⟩, ⟨991, 26, 3, 44, 11, 627, 3⟩,
     ⟨991, 26, 17, 21, 4, 445, 3⟩, ⟨991, 26, 9, 13, 16, 341, 3⟩],
    [⟨1085, 28, 3, 107, 5, 861, 3⟩, ⟨1085, 26, 3, 41, 13, 669, 3⟩,
     ⟨1085, 30, 15, 24, 5, 485, 3⟩, ⟨1085, 28, 15, 15, 10, 385, 3⟩] ] ++
  [ [⟨1156, 28, 4, 116, 4, 932, 4⟩, ⟨1156, 26, 17, 42, 0, 714, 4⟩,
     ⟨1156, 28, 17, 22, 6, 512, 4⟩, ⟨1156, 30, 19, 16, 6, 406, 4⟩],
    [⟨1258, 28, 2, 111, 7, 1006, 4⟩, ⟨1258, 28, 17, 46, 0, 782, 4⟩,
     ⟨1258, 30, 7, 24, 16, 568, 4⟩, ⟨1258, 24, 34, 13, 0, 442, 4⟩],
    [⟨1364, 30, 4, 121, 5, 1094, 4⟩, ⟨1364, 28, 4, 47, 14, 860, 4⟩,
     ⟨1364, 30, 11, 24, 14, 614, 4⟩, ⟨1364, 30, 16, 15, 14, 464, 4⟩],
    [⟨1474, 30, 6, 117, 4, 1174, 4⟩, ⟨1474, 28, 6, 45, 14, 914, 4⟩,
     ⟨1474, 30, 11, 24, 16, 664, 4⟩, ⟨1474, 30, 30, 16, 2, 514, 4⟩],
    [⟨1588, 26, 8, 106, 4, 1276, 4⟩, ⟨1588, 28, 8, 47, 13, 1000, 4⟩,
     ⟨1588, 30, 7, 24, 22, 718, 4⟩, ⟨1588, 30, 22, 15, 13, 538, 4⟩],
    [⟨1706, 28, 10, 114, 2, 1370, 4⟩, ⟨1706, 28, 19, 46, 4, 1062, 4⟩,
     ⟨1706, 28, 28, 22, 6, 754, 4⟩, ⟨1706, 30, 33, 16, 4, 596, 4⟩],
    [⟨1828, 30, 8, 122, 4, 1468, 4⟩, ⟨1828, 28, 22, 45, 3, 1128, 4⟩,
     ⟨1828, 30, 8, 23, 26, 808, 4⟩, ⟨1828, 30, 12, 15, 28, 628, 4⟩],
    [⟨1921, 30, 3, 117, 10, 1531, 3⟩, ⟨1921, 28, 3, 45, 23, 1193, 3⟩,
     ⟨1921, 30, 4, 24, 31, 871, 3⟩, ⟨1921, 30, 11, 15, 31, 661, 3⟩],
    [⟨2051, 30, 7, 116, 7, 1631, 3⟩, ⟨2051, 28, 21, 45, 7, 1267, 3⟩,
     ⟨2051, 30, 1, 23, 37, 911, 3⟩, ⟨2051, 30, 19, 15, 26, 701, 3⟩],
    [⟨2185, 30, 5, 115, 10, 1735, 3⟩, ⟨2185, 28, 19, 47, 10, 1373, 3⟩,
     ⟨2185, 30, 15, 24, 25, 985, 3⟩, ⟨2185, 30, 23, 15, 25, 745, 3⟩] ] ++
  [ [⟨2323, 30, 13, 115, 3, 1843, 3⟩, ⟨2323, 28, 2, 46, 29, 1455, 3⟩,
     ⟨2323, 30, 42, 24, 1, 1033, 3⟩, ⟨2323, 30, 23, 15, 28, 793, 3⟩],
    [⟨2465, 30, 17, 115, 0, 1955, 3⟩, ⟨2465, 28, 10, 46, 23, 1541, 3⟩,
     ⟨2465, 30, 10, 24, 35, 1115, 3⟩, ⟨2465, 30, 19, 15, 35, 845, 3⟩],
    [⟨2611, 30, 17, 115, 1, 2071, 3⟩, ⟨2611, 28, 14, 46, 21, 1631, 3⟩,
     ⟨2611, 30, 29, 24, 19, 1171, 3⟩, ⟨2611, 30, 11, 15, 46, 901, 3⟩],
    [⟨2761, 30, 13, 115, 6, 2191, 3⟩, ⟨2761, 28, 14, 46, 23, 1725, 3⟩,
     ⟨2761, 30, 44, 24, 7, 1231, 3⟩, ⟨2761, 30, 59, 16, 1, 961, 3⟩],
    [⟨2876, 30, 12, 121, 7, 2306, 0⟩, ⟨2876, 28, 12, 47, 26, 1812, 0⟩,
     ⟨2876, 30, 39, 24, 14, 1286, 0⟩, ⟨2876, 30, 22, 15, 41, 986, 0⟩],
    [⟨3034, 30, 6, 121, 14, 2434, 0⟩, ⟨3034, 28, 6, 47, 34, 1914, 0⟩,
     ⟨3034, 30, 46, 24, 10, 1354, 0⟩, ⟨3034, 30, 2, 15, 64, 1054, 0⟩],
    [⟨3196, 30, 17, 122, 4, 2566, 0⟩, ⟨3196, 28, 29, 46, 14, 1992, 0⟩,
     ⟨3196, 30, 49, 24, 10, 1426, 0⟩, ⟨3196, 30, 24, 15, 46, 1096, 0⟩],
    [⟨3362, 30, 4, 122, 18, 2702, 0⟩, ⟨3362, 28, 13, 46, 32, 2102, 0⟩,
     ⟨3362, 30, 48, 24, 14, 1502, 0⟩, ⟨3362, 30, 42, 15, 32, 1142, 0⟩],
    [⟨3532, 30, 20, 117, 4, 2812, 0⟩, ⟨3532, 28, 40, 47, 7, 2216, 0⟩,
     ⟨3532, 30, 43, 24, 22, 1582, 0⟩, ⟨3532, 30, 10, 15, 67, 1222, 0⟩],
    [⟨3706, 30, 19, 118, 6, 2956, 0⟩, ⟨3706, 28, 18, 47, 31, 2334, 0⟩,
     ⟨3706, 30, 34, 24, 34, 1666, 0⟩, ⟨3706, 30, 20, 15, 61, 1276, 0⟩] ]

/-- BLOCKTABLE[V][L] (R41). -/
def blockRow (v l : Nat) : BlockRow :=
  match v with
  | 0 => .absent
  | v' + 1 => (blockTable.getD v' []).getD l .absent

/-- POS(V), the row and column coordinates of alignment-pattern centres, for V = 1..40 (R42). -/
def alignTable : List (List Nat) :=
  [ [],
    [6, 18],
    [6, 22],
    [6, 26],
    [6, 30],
    [6, 34],
    [6, 22, 38],
    [6, 24, 42],
    [6, 26, 46],
    [6, 28, 50] ] ++
  [ [6, 30, 54],
    [6, 32, 58],
    [6, 34, 62],
    [6, 26, 46, 66],
    [6, 26, 48, 70],
    [6, 26, 50, 74],
    [6, 30, 54, 78],
    [6, 30, 56, 82],
    [6, 30, 58, 86],
    [6, 34, 62, 90] ] ++
  [ [6, 28, 50, 72, 94],
    [6, 26, 50, 74, 98],
    [6, 30, 54, 78, 102],
    [6, 28, 54, 80, 106],
    [6, 32, 58, 84, 110],
    [6, 30, 58, 86, 114],
    [6, 34, 62, 90, 118],
    [6, 26, 50, 74, 98, 122],
    [6, 30, 54, 78, 102, 126],
    [6, 26, 52, 78, 104, 130] ] ++
  [ [6, 30, 56, 82, 108, 134],
    [6, 34, 60, 86, 112, 138],
    [6, 30, 58, 86, 114, 142],
    [6, 34, 62, 90, 118, 146],
    [6, 30, 54, 78, 102, 126, 150],
    [6, 24, 50, 76, 102, 128, 154],
    [6, 28, 54, 80, 106, 132, 158],
    [6, 32, 58, 84, 110, 136, 162],
    [6, 26, 54, 82, 110, 138, 166],
    [6, 30, 58, 86, 114, 142, 170] ]

/-- POS(V) (R42). -/
def alignPos (v : Nat) : List Nat :=
  match v with
  | 0 => []
  | v' + 1 => alignTable.getD v' []

/-- The format-information table FMT(L, m) of R43: for each LEVEL code the values of masks 0..7. The
commands compute the value (43_mask_evaluation.md R109); that both agree is a statement. -/
def fmtTable : List (List (BitVec 15)) :=
  [ [0x77C4, 0x72F3, 0x7DAA, 0x789D, 0x662F, 0x6318, 0x6C41, 0x6976],
    [0x5412, 0x5125, 0x5E7C, 0x5B4B, 0x45F9, 0x40CE, 0x4F97, 0x4AA0],
    [0x355F, 0x3068, 0x3F31, 0x3A06, 0x24B4, 0x2183, 0x2EDA, 0x2BED],
    [0x1689, 0x13BE, 0x1CE7, 0x19D0, 0x0762, 0x0255, 0x0D0C, 0x083B] ]

/-- The version-information table VER(V) of R44 for V = 7..40. The commands compute the value (R110). -/
def verTable : List (BitVec 18) :=
  [ 0x07C94, 0x085BC, 0x09A99, 0x0A4D3, 0x0BBF6, 0x0C762, 0x0D847, 0x0E60D,
    0x0F928, 0x10B78, 0x1145D, 0x12A17, 0x13532, 0x149A6, 0x15683, 0x168C9,
    0x177EC, 0x18EC4, 0x191E1, 0x1AFAB, 0x1B08E, 0x1CC1A, 0x1D33F, 0x1ED75,
    0x1F250, 0x209D5, 0x216F0, 0x228BA, 0x2379F, 0x24B0B, 0x2542E, 0x26A64,
    0x27541, 0x28C69 ]

end Sys2Proof.Machine
end

