-- ==== Sys2Proof/Machine/Ops.lean ====
section
/-! DEFINITION. The named operations over memory, matrix and registers that every meaning uses: reading
and writing buffers and cells, completing a command, completing it with an error, failing a host
access, acknowledging, issuing, and the two resets. -/

namespace Sys2Proof.Machine

/-! ### Buffers (spec 00_scope.md R12, 10_state.md R34) -/

/-- The byte written at an address, if one was. -/
def Memory.find : Memory → Nat → Option Byte
  | [], _ => none
  | (k, v) :: m, a => if k = a then some v else Memory.find m a

/-- Bytes at consecutive addresses from `a`. -/
def Memory.entries (a : Nat) : List Byte → Memory
  | [] => []
  | v :: vs => (a, v) :: Memory.entries (a + 1) vs

/-- Write bytes at consecutive addresses from `a`, in place of what is listed there. -/
def Memory.writeBytes (m : Memory) (a : Nat) (vs : List Byte) : Memory :=
  m.takeWhile (fun c => decide (c.1 < a)) ++
    (Memory.entries a vs ++ m.dropWhile fun c => decide (c.1 < a + vs.length))

/-- The address lies in one of the four buffers (20_memory.md R59). -/
def inBuffers (a : Nat) : Bool :=
  (dataBase ≤ a && a < dataBase + dataBufSize) || (eccBase ≤ a && a < eccBase + eccBufSize) ||
    (genBase ≤ a && a < genBase + genBufSize) || (cwBase ≤ a && a < cwBase + cwBufSize)

/-- The canonical form: addresses strictly rising, every one in a buffer. -/
abbrev Memory.Wf (m : Memory) : Prop :=
  m.Pairwise (fun a b => a.1 < b.1) ∧ ∀ c ∈ m, inBuffers c.1 = true

/-- The byte at a buffer address: the one last written, or else the one power-on left (R148). -/
def State.byteAt (s : State) (a : Nat) : Byte :=
  (Memory.find s.mem a).getD (Config.powerOnByte s.epoch a)

/-- `MemRead(SPACE, i, n)`, for the buffer at `base` (R12). -/
def State.memRead (s : State) (base i n : Nat) : List Byte :=
  (List.range n).map fun j => s.byteAt (base + i + j)

/-- `MemWrite(SPACE, i, n, v)`, for the buffer at `base` (R12). -/
def State.memWrite (s : State) (base i : Nat) (vs : List Byte) : State :=
  { s with mem := Memory.writeBytes s.mem (base + i) vs }

/-- Write `vs` from the start of a buffer of `size` bytes and zeros to its end (41_reed_solomon.md
R90, R91, R92). -/
def State.fillBuffer (s : State) (base size : Nat) (vs : List Byte) : State :=
  s.memWrite base 0 (vs ++ List.replicate (size - vs.length) 0)

/-! ### The matrix (R10, R35, R36) -/

/-- `MAT[r][c]`; unset outside the lists (DESIGN CHOICE, log entry 12). -/
def Mat.cell (m : Mat) (r c : Nat) : MCell := (m.getD r []).getD c .unset

/-- `MAT[r][c] <- x`; nothing outside the lists (DESIGN CHOICE, log entry 12). -/
def Mat.setCell (m : Mat) (r c : Nat) (x : MCell) : Mat := m.set r ((m.getD r []).set c x)

/-- A list of cell writes, one after another. -/
def Mat.setAll (m : Mat) (ws : List ((Nat × Nat) × MCell)) : Mat :=
  ws.foldl (fun m w => Mat.setCell m w.1.1 w.1.2 w.2) m

/-- Rewrite every cell of the symbol S × S, leaving the others. -/
def Mat.mapSquare (side : Nat) (f : Nat → Nat → MCell → MCell) (m : Mat) : Mat :=
  m.zipIdx.map fun row => row.1.zipIdx.map fun x =>
    if row.2 < side && x.2 < side then f row.2 x.2 x.1 else x.1

/-- MAT has 177 rows of 177 cells (R34). -/
abbrev Mat.Wf (m : Mat) : Prop := m.length = maxSide ∧ ∀ row ∈ m, row.length = maxSide

/-- The byte of a cell: bit 0 = DARK, bit 1 = SET, bit 2 = FUNC, bits 7:3 = 0 (R36). -/
def MCell.toByte (x : MCell) : Byte :=
  0#5 ++ BitVec.ofBool x.func ++ BitVec.ofBool x.set ++ BitVec.ofBool x.dark

/-- Byte `i` of the MAT window: cell (i / 177, i mod 177), or 0 past the last cell (R36). -/
def State.matByte (s : State) (i : Nat) : Byte :=
  if i < matCells then (Mat.cell s.mat (i / maxSide) (i % maxSide)).toByte else 0

/-- The byte at any address of a buffer or of the MAT window (R59). -/
def State.memByte (s : State) (a : Nat) : Byte :=
  if matBase ≤ a then s.matByte (a - matBase) else s.byteAt a

/-! ### Completion, command errors and bus errors -/

/-- BUSY: a command is pending (R21, R37). -/
def State.busy (s : State) : Bool := s.pendcmd.isSome

/-- The command errors (60_exceptions.md R133). -/
inductive CmdError where
  | badOp | badCfg | badArg | seq | len
  deriving DecidableEq, Repr

/-- The code of a command error (R133). -/
def CmdError.code : CmdError → BitVec 4
  | .badOp => 1
  | .badCfg => 2
  | .badArg => 3
  | .seq => 4
  | .len => 5

/-- `complete()`, with the OP of the command (44_sequencing.md R128). -/
def State.complete (s : State) (op : BitVec 8) : State :=
  { s with
    pendcmd := none
    status := { s.status with done := true, err := false, ecode := 0, lastop := op } }

/-- `error_complete(op, e)`: taking a command error (60_exceptions.md R136). -/
def State.errorComplete (s : State) (op : BitVec 8) (e : CmdError) : State :=
  { s with
    pendcmd := none
    status := { s.status with done := true, err := true, ecode := e.code, lastop := op } }

/-- The bus errors (20_memory.md R52). -/
inductive BusError where
  | unmapped | misaligned | readOnly | busyWrite
  deriving DecidableEq, Repr

/-- The code of a bus error (R52). -/
def BusError.code : BusError → BitVec 4
  | .unmapped => 1
  | .misaligned => 2
  | .readOnly => 3
  | .busyWrite => 4

/-- Taking a bus error: BCODE keeps the first code since BERR was cleared (R52, R138). -/
def State.busError (s : State) (e : BusError) : State :=
  { s with
    status := { s.status with
      bcode := if s.status.berr then s.status.bcode else e.code
      berr := true } }

/-- What the host access gives back (R47). -/
def State.respond (s : State) (data : Word) (ok : Bool) : State := { s with resp := some ⟨data, ok⟩ }

/-- A write of `d` to STATUS: writing 1 clears DONE; ERR with ECODE; BERR with BCODE (R21). It is how a
host acknowledges: there is no return from an error (R137). -/
def State.writeStatus (s : State) (d : Word) : State :=
  { s with
    status := { s.status with
      done := s.status.done && !d.getLsbD 1
      err := s.status.err && !d.getLsbD 2
      ecode := if d.getLsbD 2 then 0 else s.status.ecode
      berr := s.status.berr && !d.getLsbD 3
      bcode := if d.getLsbD 3 then 0 else s.status.bcode } }

/-- Issuing a command word while BUSY = 0 (44_sequencing.md R126). -/
def State.issue (s : State) (w : Word) : State :=
  { s with
    pendcmd := some w
    status := { s.status with done := false, err := false, ecode := 0 } }

/-! ### Reset (70_reset_and_hazards.md R147 to R149) -/

/-- Soft reset: PENDCMD emptied, every register at its reset value, buffers and MAT kept (R149). -/
def State.softReset (s : State) : State :=
  { State.reset with
    mem := s.mem, mat := s.mat
    agenda := s.agenda, resp := s.resp, epoch := s.epoch, draws := s.draws }

/-- Hardware reset while the machine runs: every register at its reset value, PENDCMD emptied, buffers
and MAT drawn afresh (R147, R148; DEDUCED, log entry 14). -/
def State.hardReset (s : State) : State :=
  { State.reset with
    mat := powerOnMat (s.epoch + 1)
    agenda := s.agenda, resp := s.resp, epoch := s.epoch + 1, draws := s.draws }

/-! ### Fetching the pending command (R127, 30_encoding.md R71) -/

/-- What the core finds when it looks at PENDCMD. -/
inductive Fetched where
  /-- PENDCMD is empty: the core takes no step (R62, R146). -/
  | idle
  /-- A word that raises BADOP, with its OP (R71). -/
  | badOp (op : BitVec 8)
  /-- A command. -/
  | command (i : Instr)
  deriving DecidableEq, Repr

/-- Decode PENDCMD (R127). -/
def State.fetch (s : State) : Fetched :=
  match s.pendcmd with
  | none => .idle
  | some w =>
    match decode w with
    | .ok i => .command i
    | .error _ => .badOp (opField w)

end Sys2Proof.Machine
end

