-- ==== Sys2Proof/Machine/Operands.lean ====
section
/-! DEFINITION. The implicit operands of the commands (spec 30_encoding.md R69): they are read from
registers and buffers when the command executes; and the checks on operands that raise BADCFG, BADARG
and LEN (60_exceptions.md R133). -/

namespace Sys2Proof.Machine

/-- V = CFG.VERSION. -/
def State.opV (s : State) : Nat := s.cfg.version.toNat

/-- L = CFG.LEVEL, the code 0 = L, 1 = M, 2 = Q, 3 = H (R23). -/
def State.opL (s : State) : Nat := s.cfg.level.toNat

/-- A = GF_A[7:0]. -/
def State.opA (s : State) : Byte := s.gfA

/-- B = GF_B[7:0]. -/
def State.opB (s : State) : Byte := s.gfB

/-- S = SIDE(V). -/
def State.opSide (s : State) : Nat := sideOf s.opV

/-- The row (V, L) of the block table (10_state.md R41). -/
def State.opRow (s : State) : BlockRow := blockRow s.opV s.opL

/-- V < 1 or V > 40, which raises BADCFG. -/
def State.cfgIllegal (s : State) : Bool := s.opV < vMin || s.opV > vMax

/-- DLEN ≠ NDATA(V, L), which raises LEN. -/
def State.lenWrong (s : State) : Bool := s.dlen.toNat != s.opRow.ndata

/-- N outside 1..254, which raises BADARG in RSGEN (41_reed_solomon.md R90). -/
def rsGenArgBad (n : Nat) : Bool := n < 1 || n > rsNMax

/-- N outside 1..254, K = 0 or K + N > 255, which raises BADARG in RSENC (R91). -/
def rsEncArgBad (n k : Nat) : Bool := n < 1 || n > rsNMax || k < 1 || k + n > rsLenMax

end Sys2Proof.Machine
end

