-- ==== Sys2Proof/Machine/Flags.lean ====
section
/-! DEFINITION. The status flags: the stage preconditions that raise SEQ (spec 60_exceptions.md R134),
the words the host reads of STATUS, CFG, MASKSEL and the others (10_state.md R18 to R30), and the
interrupt line (60_exceptions.md R139). -/

namespace Sys2Proof.Machine

/-! ### Stage preconditions (R134) -/

/-- MFUNC needs MSTAGE = 1. -/
def State.seqMfunc (s : State) : Bool := s.status.mstage != 1

/-- MDATA needs MSTAGE = 2 and CWV = 1. -/
def State.seqMdata (s : State) : Bool := s.status.mstage != 2 || !s.status.cwv

/-- MSCORE, MEVAL and MAPPLY need MSTAGE = 3. -/
def State.seqPlaced (s : State) : Bool := s.status.mstage != 3

/-- MAPSEL needs MSTAGE = 3 and SELV = 1. -/
def State.seqMapsel (s : State) : Bool := s.status.mstage != 3 || !s.status.selv

/-! ### Flag updates -/

/-- STATUS.CWV <- b. -/
def State.setCwv (s : State) (b : Bool) : State := { s with status := { s.status with cwv := b } }

/-- STATUS.MSTAGE <- n. -/
def State.setMstage (s : State) (n : BitVec 3) : State :=
  { s with status := { s.status with mstage := n } }

/-- STATUS.SELV <- b. -/
def State.setSelv (s : State) (b : Bool) : State := { s with status := { s.status with selv := b } }

/-! ### Register words -/

/-- STATUS as a word, with BUSY in bit 0 (R21). -/
def Status.toWord (t : Status) (busy : Bool) : Word :=
  t.lastop ++ 0#4 ++ t.bcode ++ t.ecode ++ 0#3 ++ BitVec.ofBool t.selv ++ t.mstage ++
    BitVec.ofBool t.cwv ++ BitVec.ofBool t.berr ++ BitVec.ofBool t.err ++ BitVec.ofBool t.done ++
    BitVec.ofBool busy

/-- STATUS as the host reads it (R21). -/
def State.statusWord (s : State) : Word := s.status.toWord s.busy

/-- CTRL: IE in bit 0; SRST reads 0 (R22). -/
def State.ctrlWord (s : State) : Word := (BitVec.ofBool s.ie).setWidth 32

/-- CFG: VERSION in 5:0, LEVEL in 9:8 (R23). -/
def Cfg.toWord (c : Cfg) : Word := 0#22 ++ c.level ++ 0#2 ++ c.version

/-- CFG from the written word; its reserved bits are ignored (R18, R23). -/
def Cfg.ofWord (d : Word) : Cfg := ⟨d.extractLsb' 0 6, d.extractLsb' 8 2⟩

/-- MASKSEL: SEL in 2:0, APPLIED in 10:8, PDM in 18:16 (R28). -/
def MaskSel.toWord (x : MaskSel) : Word := 0#13 ++ x.pdm ++ 0#5 ++ x.applied ++ 0#5 ++ x.sel

/-- BLOCKS of a row: NB1, ND1, NB2 and NEC, a byte each from the low end (R26; DEDUCED, log entry 11). -/
def BlockRow.blocksWord (r : BlockRow) : Word :=
  BitVec.ofNat 8 r.nec ++ BitVec.ofNat 8 r.nb2 ++ BitVec.ofNat 8 r.nd1 ++ BitVec.ofNat 8 r.nb1

/-! ### The interrupt line -/

/-- IRQ = CTRL.IE AND (DONE OR ERR OR BERR) (R139). -/
def State.irq (s : State) : Bool := s.ie && (s.status.done || s.status.err || s.status.berr)

end Sys2Proof.Machine
end

