-- ==== Sys2Proof/Machine/Bus.lean ====
section
/-! DEFINITION. The host bus: the address map, reads and writes, bus errors, and what a read returns
while a command is pending (spec 20_memory.md). -/

namespace Sys2Proof.Machine

/-- The host-visible registers (10_state.md R18). -/
inductive Reg where
  | id | rev | cmd | status | ctrl | cfg | dlen | gfA | gfB | gfRes | ntotal | ndata | blocks | remBits
  | side | maskSel | penvalid | fmtBits | verBits
  | pen (m : BitVec 3)
  | pd1 | pd2 | pd3 | pd4
  deriving DecidableEq, Repr

/-- The byte buffers (R34). -/
inductive Buffer where
  | data | ecc | gen | cw
  deriving DecidableEq, Repr

/-- What stands at an aligned address (R59). -/
inductive Loc where
  /-- A register. -/
  | reg (r : Reg)
  /-- The word of a buffer at host address `a`. -/
  | buffer (b : Buffer) (a : Nat)
  /-- The word of the MAT window at byte `i` of the window. -/
  | mat (i : Nat)
  /-- Nothing. -/
  | unmapped
  deriving DecidableEq, Repr

/-! ### The address map (R18, R59) -/

/-- The registers from offset 0 in steps of 4; none stands at 0x04C (R18). -/
def regMap : List (Option Reg) :=
  [some .id, some .rev, some .cmd, some .status, some .ctrl, some .cfg, some .dlen, some .gfA,
   some .gfB, some .gfRes, some .ntotal, some .ndata, some .blocks, some .remBits, some .side,
   some .maskSel] ++
  [some .penvalid, some .fmtBits, some .verBits, none, some (.pen 0), some (.pen 1), some (.pen 2),
   some (.pen 3), some (.pen 4), some (.pen 5), some (.pen 6), some (.pen 7), some .pd1, some .pd2,
   some .pd3, some .pd4]

/-- The register at a byte offset below 0x080, if there is one (R18). -/
def regAt (a : Nat) : Loc :=
  match regMap.getD (a / 4) none with
  | some r => .reg r
  | none => .unmapped

/-- The location of an aligned address (R59). -/
def locOf (addr : Addr) : Loc :=
  let a := addr.toNat
  if a < 0x0080 then regAt a
  else if a < 0x1000 then .unmapped
  else if a < 0x2000 then .buffer .data a
  else if a < 0x2100 then .buffer .ecc a
  else if a < 0x2200 then .buffer .gen a
  else if a < 0x3000 then .unmapped
  else if a < 0x4000 then .buffer .cw a
  else if a < 0x8000 then .unmapped
  else .mat (a - 0x8000)

/-- addr[1:0] ≠ 0 (R48). -/
def misaligned (addr : Addr) : Bool := addr.extractLsb' 0 2 != 0

/-- The read-only locations (R50). -/
def Loc.readOnly : Loc → Bool
  | .reg .cmd | .reg .status | .reg .ctrl | .reg .cfg | .reg .dlen | .reg .gfA | .reg .gfB => false
  | .reg _ => true
  | .buffer .data _ => false
  | .buffer _ _ => true
  | .mat _ => true
  | .unmapped => false

/-- The locations whose writes are refused while BUSY = 1 (R51). -/
def Loc.lockedWhileBusy : Loc → Bool
  | .reg .cmd | .reg .cfg | .reg .dlen | .reg .gfA | .reg .gfB => true
  | .buffer .data _ => true
  | _ => false

/-- The first bus error that applies to a write, in the order MISALIGNED, UNMAPPED, READONLY,
BUSYWRITE (R52). -/
def writeError (s : State) (addr : Addr) : Option BusError :=
  if misaligned addr then some .misaligned
  else if locOf addr = .unmapped then some .unmapped
  else if (locOf addr).readOnly then some .readOnly
  else if s.busy && (locOf addr).lockedWhileBusy then some .busyWrite
  else none

/-- The first bus error that applies to a read (R52). -/
def readError (addr : Addr) : Option BusError :=
  if misaligned addr then some .misaligned
  else if locOf addr = .unmapped then some .unmapped
  else none

/-! ### Writes -/

/-- The four bytes of a word, byte k from bits [8k+7 : 8k] (R53). -/
def wordBytes (d : Word) : List Byte :=
  [d.extractLsb' 0 8, d.extractLsb' 8 8, d.extractLsb' 16 8, d.extractLsb' 24 8]

/-- The word of four bytes, byte k in bits [8k+7 : 8k] (R53). -/
def bytesWord (b0 b1 b2 b3 : Byte) : Word := b3 ++ b2 ++ b1 ++ b0

/-- A write to CFG: VERSION and LEVEL, and CWV, MSTAGE, SELV and PENVALID cleared (10_state.md R33). -/
def State.writeCfg (s : State) (d : Word) : State :=
  { s with
    cfg := Cfg.ofWord d
    penvalid := 0
    status := { s.status with cwv := false, mstage := 0, selv := false } }

/-- A write to DLEN, which clears CWV (R24). -/
def State.writeDlen (s : State) (d : Word) : State :=
  { s with dlen := d.extractLsb' 0 12 }.setCwv false

/-- A write to CTRL: a soft reset if bit 1 is 1, else IE <- bit 0 (R22, 70_reset_and_hazards.md R149). -/
def State.writeCtrl (s : State) (d : Word) : State :=
  if d.getLsbD 1 then s.softReset else { s with ie := d.getLsbD 0 }

/-- A write of a DATA_BUF word, which clears CWV (R31, R53). -/
def State.writeData (s : State) (a : Nat) (d : Word) : State :=
  (s.memWrite a 0 (wordBytes d)).setCwv false

/-- The effect of an accepted write (R57). Only locations that a write can reach have one. -/
def State.writeLoc (s : State) (l : Loc) (d : Word) : State :=
  match l with
  | .reg .cmd => s.issue d
  | .reg .status => s.writeStatus d
  | .reg .ctrl => s.writeCtrl d
  | .reg .cfg => s.writeCfg d
  | .reg .dlen => s.writeDlen d
  | .reg .gfA => { s with gfA := d.extractLsb' 0 8 }
  | .reg .gfB => { s with gfB := d.extractLsb' 0 8 }
  | .reg _ => s
  | .buffer _ a => s.writeData a d
  | .mat _ => s
  | .unmapped => s

/-- `HostWrite(addr, data)` (R47). -/
def State.hostWrite (s : State) (addr : Addr) (d : Word) : State :=
  match writeError s addr with
  | some e => (s.busError e).respond 0 false
  | none => (s.writeLoc (locOf addr) d).respond 0 true

/-! ### Reads -/

/-- A register as the host reads it while nothing is drawn (10_state.md R18 to R30). -/
def State.readReg (s : State) : Reg → Word
  | .id => idConst
  | .rev => revConst
  | .cmd => 0
  | .status => s.statusWord
  | .ctrl => s.ctrlWord
  | .cfg => s.cfg.toWord
  | .dlen => s.dlen.setWidth 32
  | .gfA => s.gfA.setWidth 32
  | .gfB => s.gfB.setWidth 32
  | .gfRes => s.gfRes.setWidth 32
  | .ntotal => s.ntotal.setWidth 32
  | .ndata => s.ndata.setWidth 32
  | .blocks => s.blocks
  | .remBits => s.remBits.setWidth 32
  | .side => s.side.setWidth 32
  | .maskSel => s.maskSel.toWord
  | .penvalid => s.penvalid.setWidth 32
  | .fmtBits => s.fmtBits.setWidth 32
  | .verBits => s.verBits.setWidth 32
  | .pen m => s.pen[m.toFin]
  | .pd1 => s.pd1
  | .pd2 => s.pd2
  | .pd3 => s.pd3
  | .pd4 => s.pd4

/-- The exact current value of a location (R53, R66). -/
def State.readLoc (s : State) : Loc → Word
  | .reg r => s.readReg r
  | .buffer _ a => bytesWord (s.byteAt a) (s.byteAt (a + 1)) (s.byteAt (a + 2)) (s.byteAt (a + 3))
  | .mat i => bytesWord (s.matByte i) (s.matByte (i + 1)) (s.matByte (i + 2)) (s.matByte (i + 3))
  | .unmapped => 0

/-- Locations that ECCODE writes (R58). -/
def writtenByEccode : Loc → Bool
  | .buffer .cw _ | .reg .ntotal | .reg .ndata | .reg .blocks | .reg .remBits => true
  | _ => false

/-- Locations of MAT cells; window bytes past the last cell are none (R36, R58). -/
def isMatCell : Loc → Bool
  | .mat i => i < matCells
  | _ => false

/-- Locations that MINIT writes (R58). -/
def writtenByMinit (l : Loc) : Bool := isMatCell l || l == .reg .side || l == .reg .penvalid

/-- Locations that MSCORE and MEVAL write (R58). -/
def writtenByScore : Loc → Bool
  | .reg (.pen _) | .reg .pd1 | .reg .pd2 | .reg .pd3 | .reg .pd4 | .reg .penvalid | .reg .maskSel => true
  | _ => false

/-- Locations that MAPPLY and MAPSEL write (R58). -/
def writtenByApply (l : Loc) : Bool :=
  isMatCell l || l == .reg .maskSel || l == .reg .fmtBits || l == .reg .verBits

/-- The location is in the write set W of a pending word with this OP (the table of R58; for a word that
will raise BADOP see DEDUCED, log entry 8). -/
def inWriteSet (op : BitVec 8) (l : Loc) : Bool :=
  match op.toNat with
  | 0x10 | 0x11 | 0x12 | 0x13 => l == .reg .gfRes
  | 0x20 => match l with | .buffer .gen _ => true | _ => false
  | 0x21 => match l with | .buffer .ecc _ => true | _ => false
  | 0x22 => writtenByEccode l
  | 0x30 => writtenByMinit l
  | 0x31 | 0x32 => isMatCell l
  | 0x40 | 0x41 => writtenByScore l
  | 0x42 | 0x43 => writtenByApply l
  | 0x50 => writtenByEccode l || writtenByMinit l || writtenByScore l || writtenByApply l
  | _ => false

/-- The bits of STATUS that a read draws while BUSY = 1: LASTOP, SELV, MSTAGE, CWV (R58). -/
def statusDrawMask : Word := 0xFF0001F0

/-- The bits of a MAT word that belong to cells: all, but for the word that holds the last cell (R36). -/
def matDrawMask (i : Nat) : Word := if i + 3 < matCells then 0xFFFFFFFF else 0x000000FF

/-- The bits of a location that a read draws while the word with this OP is pending (R58). -/
def drawMask (op : BitVec 8) (l : Loc) : Word :=
  match l with
  | .reg .status => statusDrawMask
  | .mat i => if inWriteSet op l then matDrawMask i else 0
  | _ => if inWriteSet op l then 0xFFFFFFFF else 0

/-- The bits a read draws: none while nothing is pending (R58). -/
def State.drawMaskOf (s : State) (l : Loc) : Word :=
  match s.pendcmd with
  | none => 0
  | some w => drawMask (opField w) l

/-- What a read of a mapped location returns: its exact value, but for the drawn bits (R58). -/
def State.readValue (s : State) (l : Loc) : Word :=
  (s.readLoc l &&& ~~~ s.drawMaskOf l) ||| (Config.busyDraw s.draws &&& s.drawMaskOf l)

/-- Count a draw, so that the next one is fresh (R58). -/
def State.countDraw (s : State) (l : Loc) : State :=
  if s.drawMaskOf l = 0 then s else { s with draws := s.draws + 1 }

/-- `HostRead(addr)` (R47). A read changes nothing of QRSE's (R57), but for BERR and BCODE when it
fails. -/
def State.hostRead (s : State) (addr : Addr) : State :=
  match readError addr with
  | some e => (s.busError e).respond 0 false
  | none => (s.countDraw (locOf addr)).respond (s.readValue (locOf addr)) true

/-- One host step: one access (R47, R56). -/
def State.hostAccess (s : State) : Access → State
  | .write addr d => s.hostWrite addr d
  | .read addr => s.hostRead addr

end Sys2Proof.Machine
end

