-- ==== Sys2Proof/Machine/GfArith.lean ====
section
/-! DEFINITION. GF(256) arithmetic and its commands GFADD, GFMUL, GFEXP, GFLOG (spec 40_gf_arith.md). -/

namespace Sys2Proof.Machine

/-! ### The field (R75 to R77) -/

/-- GF_EXP[i], for i = 0..254 (R40; outside it DESIGN CHOICE, log entry 13). -/
def gfExp (i : Nat) : Byte := gfExpTable.getD i 0

/-- GF_LOG[a] (R40). -/
def gfLog (a : Byte) : Nat := gfLogTable.getD a.toNat 0

/-- Field multiplication a ⊗ b by the tables (R77). -/
def gfmul (a b : Byte) : Byte :=
  if a = 0 ∨ b = 0 then 0 else gfExp ((gfLog a + gfLog b) % 255)

/-- One partial product of the carry-less multiplication: `a << i` where b[i] = 1 (R77). -/
def clPartial (a b : Byte) (i : Nat) : BitVec 15 :=
  if b.getLsbD i then a.setWidth 15 <<< i else 0

/-- The carry-less product of two bytes, 15 bits (R77). -/
def clProduct (a b : Byte) : BitVec 15 :=
  (List.range 8).foldl (fun r i => r ^^^ clPartial a b i) 0

/-- Reduction by the field polynomial 0x11D at bit i (R75, R77). -/
def clReduceAt (r : BitVec 15) (i : Nat) : BitVec 15 :=
  if r.getLsbD i then r ^^^ (0x11D#15 <<< (i - 8)) else r

/-- The carry-less product of a and b reduced modulo 0x11D (R77). No command uses it; that it equals
`gfmul` is a statement. -/
def gfmulClmul (a b : Byte) : Byte :=
  ([14, 13, 12, 11, 10, 9, 8].foldl clReduceAt (clProduct a b)).setWidth 8

/-- Multiplication by α: `e << 1`, with 0x11D taken away where bit 8 comes out (R40). -/
def gfDouble (e : Byte) : Byte := if e.getLsbD 7 then (e <<< 1) ^^^ 0x1D else e <<< 1

/-! ### The commands -/

/-- GF_RES <- v. -/
def State.setGfRes (s : State) (v : Byte) : State := { s with gfRes := v }

/-- GFADD (R79). -/
def execGfadd (s : State) : Host.Outcome State Fault Refusal :=
  .next ((s.setGfRes (s.opA ^^^ s.opB)).complete 0x10)

/-- GFMUL (R80). -/
def execGfmul (s : State) : Host.Outcome State Fault Refusal :=
  .next ((s.setGfRes (gfmul s.opA s.opB)).complete 0x11)

/-- GFEXP (R81). -/
def execGfexp (s : State) : Host.Outcome State Fault Refusal :=
  .next ((s.setGfRes (gfExp (s.opA.toNat % 255))).complete 0x12)

/-- GFLOG (R82): BADARG for A = 0. -/
def execGflog (s : State) : Host.Outcome State Fault Refusal :=
  if s.opA = 0 then .next (s.errorComplete 0x13 .badArg)
  else .next ((s.setGfRes (BitVec.ofNat 8 (gfLog s.opA))).complete 0x13)

end Sys2Proof.Machine
end

