-- ==== Sys2Proof/Machine/ReedSolomon.lean ====
section
/-! DEFINITION. The Reed–Solomon encoder, block split and interleave, and the commands RSGEN, RSENC,
ECCODE (spec 41_reed_solomon.md). A polynomial is its coefficient list, highest power first (R11). -/

namespace Sys2Proof.Machine

/-! ### Polynomials (R84, R85) -/

/-- Coefficient-wise ⊕ of two lists of one length. -/
def polyAdd (p q : List Byte) : List Byte := List.zipWith (fun a b => a ^^^ b) p q

/-- Every coefficient ⊗ f. -/
def polyScale (p : List Byte) (f : Byte) : List Byte := p.map fun a => gfmul a f

/-- g(x) · (x ⊕ α^i), the loop body of `genpoly` (R84). -/
def mulRoot (g : List Byte) (i : Nat) : List Byte :=
  polyAdd (g ++ [0]) (0 :: polyScale g (gfExp i))

/-- The generator polynomial g_N, N + 1 coefficients (R84). -/
def genpoly (n : Nat) : List Byte := (List.range n).foldl mulRoot [1]

/-- One step of `rsrem`: shift in the data codeword `d`, with g = [g_1, .., g_N] (R85). -/
def rsStep (g : List Byte) (r : List Byte) (d : Byte) : List Byte :=
  polyAdd (r.tail ++ [0]) (polyScale g (d ^^^ r.headD 0))

/-- The N EC codewords of a block (R85). -/
def rsrem (d : List Byte) (n : Nat) : List Byte :=
  d.foldl (rsStep (genpoly n).tail) (List.replicate n 0)

/-- The value of a polynomial at x, by Horner's rule (R11, R86). No command uses it. -/
def polyEval (p : List Byte) (x : Byte) : Byte := p.foldl (fun acc c => gfmul acc x ^^^ c) 0

/-! ### Split and interleave (R87, R88) -/

/-- The lengths of a row's blocks: NB1 of ND1, then NB2 of ND1 + 1 (R87). -/
def BlockRow.blockLengths (r : BlockRow) : List Nat :=
  List.replicate r.nb1 r.nd1 ++ List.replicate r.nb2 (r.nd1 + 1)

/-- Contiguous runs of the given lengths (R87). -/
def splitRuns (d : List Byte) : List Nat → List (List Byte)
  | [] => []
  | n :: ns => d.take n :: splitRuns (d.drop n) ns

/-- The longest data column count: ND2 if NB2 > 0, else ND1 (R88). -/
def BlockRow.columns (r : BlockRow) : Nat := if r.nb2 > 0 then r.nd1 + 1 else r.nd1

/-- Column j of the blocks: the codeword j of each block that has one, in block order (R88). -/
def blockColumn (blocks : List (List Byte)) (j : Nat) : List Byte := blocks.filterMap fun b => b[j]?

/-- The first n columns one after another (R88). -/
def interleave (blocks : List (List Byte)) (n : Nat) : List Byte :=
  (List.range n).flatMap (blockColumn blocks)

/-- The final codeword sequence of a CodewordStream (R87, R88, R92). -/
def finalCodewords (r : BlockRow) (d : List Byte) : List Byte :=
  interleave (splitRuns d r.blockLengths) r.columns ++
    interleave ((splitRuns d r.blockLengths).map fun b => rsrem b r.nec) r.nec

/-! ### The commands -/

/-- RSGEN n (R90). -/
def execRsgen (n : BitVec 8) (s : State) : Host.Outcome State Fault Refusal :=
  if rsGenArgBad n.toNat then .next (s.errorComplete 0x20 .badArg)
  else .next ((s.fillBuffer genBase genBufSize (genpoly n.toNat)).complete 0x20)

/-- RSENC n, k (R91). -/
def execRsenc (n k : BitVec 8) (s : State) : Host.Outcome State Fault Refusal :=
  if rsEncArgBad n.toNat k.toNat then .next (s.errorComplete 0x21 .badArg)
  else
    .next ((s.fillBuffer eccBase eccBufSize
      (rsrem (s.memRead dataBase 0 k.toNat) n.toNat)).complete 0x21)

/-- The codewords ECCODE computes from CFG and DATA_BUF (R92). -/
def State.codewords (s : State) : List Byte :=
  finalCodewords s.opRow (s.memRead dataBase 0 s.opRow.ndata)

/-- NTOTAL, NDATA, BLOCKS and REMBITS from a row of the block table (R26, R92). -/
def State.setEcRegs (s : State) (r : BlockRow) : State :=
  { s with
    ntotal := BitVec.ofNat 12 r.ntotal
    ndata := BitVec.ofNat 12 r.ndata
    blocks := r.blocksWord
    remBits := BitVec.ofNat 3 r.remBits }

/-- What ECCODE does after its checks and before `complete()` (R92). -/
def State.eccodeBody (s : State) : State :=
  ((s.fillBuffer cwBase cwBufSize s.codewords).setEcRegs s.opRow).setCwv true

/-- ECCODE (R92). -/
def execEccode (s : State) : Host.Outcome State Fault Refusal :=
  if s.cfgIllegal then .next (s.errorComplete 0x22 .badCfg)
  else if s.lenWrong then .next (s.errorComplete 0x22 .len)
  else .next (s.eccodeBody.complete 0x22)

end Sys2Proof.Machine
end

