-- ==== Sys2Proof/Machine/Placement.lean ====
section
/-! DEFINITION. Matrix placement: function patterns, the zig-zag walk, and the commands MINIT, MFUNC,
MDATA (spec 42_matrix_placement.md). S is the side length; positions are (row, column) (R10). -/

namespace Sys2Proof.Machine

/-- A coloured function cell, dark or light: {SET 1, DARK, FUNC 1} (R35). -/
def MCell.function (dark : Bool) : MCell := ⟨true, dark, true⟩

/-- A reserved cell {SET 0, DARK 0, FUNC 1} (R35). -/
def MCell.reserved : MCell := ⟨false, false, true⟩

/-- A data cell {SET 1, DARK bit, FUNC 0} (R35, R105). -/
def MCell.data (bit : Bool) : MCell := ⟨true, bit, false⟩

/-- A cell write: position and new content. -/
abbrev CellWrite := (Nat × Nat) × MCell

/-! ### Function patterns (R94 to R98) -/

/-- The distance |x − y|. -/
def natDist (x y : Nat) : Nat := (x - y) + (y - x)

/-- A finder pattern with top-left corner (r, c): dark where max(|dr−3|, |dc−3|) ≠ 2 (R94). -/
def finderAt (r c : Nat) : List CellWrite :=
  (List.range 7).flatMap fun dr => (List.range 7).map fun dc =>
    ((r + dr, c + dc), MCell.function (max (natDist dr 3) (natDist dc 3) != 2))

/-- The three finder patterns (R94). -/
def finderCells (side : Nat) : List CellWrite :=
  finderAt 0 0 ++ finderAt 0 (side - 7) ++ finderAt (side - 7) 0

/-- The separators, light (R95). -/
def separatorCells (side : Nat) : List CellWrite :=
  ((List.range 8).flatMap fun k =>
    [(7, k), (k, 7), (7, side - 8 + k), (k, side - 8), (side - 8, k), (side - 8 + k, 7)]).map
      fun p => (p, MCell.function false)

/-- The two timing lines, dark on even (R96). -/
def timingCells (side : Nat) : List CellWrite :=
  (List.range (side - 16)).flatMap fun k =>
    [((6, 8 + k), MCell.function ((8 + k) % 2 == 0)), ((8 + k, 6), MCell.function ((8 + k) % 2 == 0))]

/-- An alignment pattern centred at (r, c): dark where max(|dr|, |dc|) ≠ 1 (R97). -/
def alignmentAt (r c : Nat) : List CellWrite :=
  (List.range 5).flatMap fun i => (List.range 5).map fun j =>
    ((r + i - 2, c + j - 2), MCell.function (max (natDist i 2) (natDist j 2) != 1))

/-- The alignment centres of version V: POS × POS but for (P0, P0), (P0, Pz) and (Pz, P0), where P0 = 6
and Pz = S − 7 (R97). -/
def alignmentCentres (v : Nat) : List (Nat × Nat) :=
  ((alignPos v).flatMap fun r => (alignPos v).map fun c => (r, c)).filter fun p =>
    !(p == (6, 6) || p == (6, sideOf v - 7) || p == (sideOf v - 7, 6))

/-- The alignment patterns of version V (R97). -/
def alignmentCells (v : Nat) : List CellWrite :=
  (alignmentCentres v).flatMap fun p => alignmentAt p.1 p.2

/-- The dark module (S−8, 8) (R98). -/
def darkModule (side : Nat) : List CellWrite := [((side - 8, 8), MCell.function true)]

/-! ### Format and version cells (R99, R100) -/

/-- FC1(k) for k = 0..14 (R99). -/
def fc1 : List (Nat × Nat) :=
  [(0, 8), (1, 8), (2, 8), (3, 8), (4, 8), (5, 8), (7, 8), (8, 8), (8, 7), (8, 5), (8, 4), (8, 3),
   (8, 2), (8, 1), (8, 0)]

/-- FC2(k) for k = 0..14 (R99). -/
def fc2 (side : Nat) : List (Nat × Nat) :=
  [(8, side - 1), (8, side - 2), (8, side - 3), (8, side - 4), (8, side - 5), (8, side - 6),
   (8, side - 7), (8, side - 8), (side - 7, 8), (side - 6, 8), (side - 5, 8), (side - 4, 8),
   (side - 3, 8), (side - 2, 8), (side - 1, 8)]

/-- VC1(k) for k = 0..17 (R100). -/
def vc1 (side : Nat) : List (Nat × Nat) := (List.range 18).map fun k => (k / 3, side - 11 + k % 3)

/-- VC2(k) for k = 0..17 (R100). -/
def vc2 (side : Nat) : List (Nat × Nat) := (List.range 18).map fun k => (side - 11 + k % 3, k / 3)

/-- The cells MFUNC reserves: format cells, and for V ≥ 7 version cells (R99, R100, R103). -/
def reservedCells (v : Nat) : List (Nat × Nat) :=
  fc1 ++ fc2 (sideOf v) ++ if v ≥ 7 then vc1 (sideOf v) ++ vc2 (sideOf v) else []

/-- Every cell MFUNC writes for version V, in the order of its pseudocode (R103). -/
def functionWrites (v : Nat) : List CellWrite :=
  finderCells (sideOf v) ++ separatorCells (sideOf v) ++ timingCells (sideOf v) ++ alignmentCells v ++
    darkModule (sideOf v) ++ (reservedCells v).map fun p => (p, MCell.reserved)

/-! ### Data placement (R104, R105) -/

/-- The cells of the column pair (right, right − 1), upward or downward (R104). -/
def zigzagPair (side right : Nat) (upward : Bool) : List (Nat × Nat) :=
  (List.range side).flatMap fun vert =>
    let r := if upward then side - 1 - vert else vert
    [(r, right), (r, right - 1)]

/-- The loop of Z(S) from column `right`, for at most `fuel` column pairs (R104). -/
def zigzagFrom (side : Nat) : Nat → Nat → List (Nat × Nat)
  | 0, _ => []
  | fuel + 1, right =>
    if right < 1 then []
    else
      let right := if right = 6 then 5 else right
      zigzagPair side right ((right + 1) &&& 2 == 0) ++ zigzagFrom side fuel (right - 2)

/-- The zig-zag order Z(S) (R104). -/
def zigzag (side : Nat) : List (Nat × Nat) := zigzagFrom side side (side - 1)

/-- The bits of a codeword, bit 7 first (R9, R54). -/
def msbFirst (b : Byte) : List Bool := (List.range 8).map fun j => b.getLsbD (7 - j)

/-- The non-function cells in the order Z(S) (R105). -/
def dataCells (m : Mat) (side : Nat) : List (Nat × Nat) :=
  (zigzag side).filter fun p => !(Mat.cell m p.1 p.2).func

/-- Data placement: the bits of the codewords, then light cells, into the data cells in order (R105). -/
def placeData (m : Mat) (side : Nat) (cw : List Byte) : Mat :=
  let cells := dataCells m side
  let bits := cw.flatMap msbFirst ++ List.replicate cells.length false
  Mat.setAll m (List.zipWith (fun p b => (p, MCell.data b)) cells bits)

/-! ### The commands -/

/-- What MINIT does after its checks and before `complete()` (R93). -/
def State.minitBody (s : State) : State :=
  { s with
    mat := List.replicate maxSide (List.replicate maxSide MCell.unset)
    side := BitVec.ofNat 8 s.opSide
    penvalid := 0
    status := { s.status with mstage := 1, selv := false } }

/-- MINIT (R93). -/
def execMinit (s : State) : Host.Outcome State Fault Refusal :=
  if s.cfgIllegal then .next (s.errorComplete 0x30 .badCfg)
  else .next (s.minitBody.complete 0x30)

/-- What MFUNC does after its checks and before `complete()` (R103). -/
def State.mfuncBody (s : State) : State :=
  { s with mat := Mat.setAll s.mat (functionWrites s.opV) }.setMstage 2

/-- MFUNC (R103). -/
def execMfunc (s : State) : Host.Outcome State Fault Refusal :=
  if s.cfgIllegal then .next (s.errorComplete 0x31 .badCfg)
  else if s.seqMfunc then .next (s.errorComplete 0x31 .seq)
  else .next (s.mfuncBody.complete 0x31)

/-- What MDATA does after its checks and before `complete()` (R106). -/
def State.mdataBody (s : State) : State :=
  { s with mat := placeData s.mat s.opSide (s.memRead cwBase 0 s.opRow.ntotal) }.setMstage 3

/-- MDATA (R106). -/
def execMdata (s : State) : Host.Outcome State Fault Refusal :=
  if s.cfgIllegal then .next (s.errorComplete 0x32 .badCfg)
  else if s.seqMdata then .next (s.errorComplete 0x32 .seq)
  else .next (s.mdataBody.complete 0x32)

end Sys2Proof.Machine
end

