-- ==== Sys2Proof/Machine/MaskEval.lean ====
section
/-! DEFINITION. Masks, format and version information, candidates, penalties, and the commands MSCORE,
MEVAL, MAPPLY, MAPSEL (spec 43_mask_evaluation.md). -/

namespace Sys2Proof.Machine

/-! ### Masks (R107, R108) -/

/-- mask_m(i, j): invert cell (i, j), i the row and j the column (R107). -/
def maskBit (m : BitVec 3) (i j : Nat) : Bool :=
  match m.toNat with
  | 0 => (i + j) % 2 == 0
  | 1 => i % 2 == 0
  | 2 => j % 3 == 0
  | 3 => (i + j) % 3 == 0
  | 4 => (i / 2 + j / 3) % 2 == 0
  | 5 => (i * j) % 2 + (i * j) % 3 == 0
  | 6 => ((i * j) % 2 + (i * j) % 3) % 2 == 0
  | _ => ((i + j) % 2 + (i * j) % 3) % 2 == 0

/-- What masking does to the cell (i, j): DARK inverted where FUNC = 0 and mask_m holds (R108). -/
def maskCell (m : BitVec 3) (i j : Nat) (x : MCell) : MCell :=
  if x.func then x else { x with dark := x.dark ^^ maskBit m i j }

/-! ### Format and version information (R109 to R112) -/

/-- The ECL bits of a level code: L 01, M 00, Q 11, H 10 (R109). -/
def eclBits (l : BitVec 2) : BitVec 2 :=
  match l.toNat with
  | 0 => 0b01
  | 1 => 0b00
  | 2 => 0b11
  | _ => 0b10

/-- One step of the BCH(15,5) division at bit i (R109). -/
def fmtReduceAt (r : BitVec 15) (i : Nat) : BitVec 15 :=
  if r.getLsbD i then r ^^^ (0x537#15 <<< (i - 10)) else r

/-- The 15-bit format information (R109). -/
def fmtbits (l : BitVec 2) (m : BitVec 3) : BitVec 15 :=
  let d := (eclBits l ++ m).setWidth 15
  let r := [14, 13, 12, 11, 10].foldl fmtReduceAt (d <<< 10)
  ((d <<< 10) ||| (r &&& 0x3FF#15)) ^^^ 0x5412#15

/-- One step of the BCH(18,6) division at bit i (R110). -/
def verReduceAt (r : BitVec 18) (i : Nat) : BitVec 18 :=
  if r.getLsbD i then r ^^^ (0x1F25#18 <<< (i - 12)) else r

/-- The 18-bit version information, for V = 7..40 (R110; outside it DESIGN CHOICE, log entry 13). -/
def verbits (v : Nat) : BitVec 18 :=
  let d := BitVec.ofNat 18 v <<< 12
  let r := [17, 16, 15, 14, 13, 12].foldl verReduceAt d
  d ||| (r &&& 0xFFF#18)

/-- Bit k of a value into cell k of a list of cells, each {SET 1, DARK bit, FUNC 1} (R111, R112). -/
def infoWrites (cells : List (Nat × Nat)) (bit : Nat → Bool) : List CellWrite :=
  cells.zipIdx.map fun p => (p.1, MCell.function (bit p.2))

/-- The writes of format information, both copies (R111). -/
def fmtWrites (side : Nat) (f : BitVec 15) : List CellWrite :=
  infoWrites fc1 f.getLsbD ++ infoWrites (fc2 side) f.getLsbD

/-- The writes of version information, both copies, for V ≥ 7 only (R112). -/
def verWrites (v : Nat) : List CellWrite :=
  if v ≥ 7 then
    infoWrites (vc1 (sideOf v)) (verbits v).getLsbD ++ infoWrites (vc2 (sideOf v)) (verbits v).getLsbD
  else []

/-! ### Candidates (R113) -/

/-- The candidate of mask m (R113). Cells outside S × S stay (R124). -/
def candidate (mat : Mat) (v : Nat) (l : BitVec 2) (m : BitVec 3) : Mat :=
  Mat.setAll (Mat.mapSquare (sideOf v) (maskCell m) mat)
    (fmtWrites (sideOf v) (fmtbits l m) ++ verWrites v)

/-! ### Penalties (R114 to R120) -/

/-- The colour grid of the symbol, its S rows: true = dark (R114). -/
def colourRows (mat : Mat) (side : Nat) : List (List Bool) :=
  (mat.take side).map fun row => (row.take side).map MCell.dark

/-- The columns of a grid of rows of `side` cells (R114). -/
def gridColumns (side : Nat) (rows : List (List Bool)) : List (List Bool) :=
  rows.foldr (List.zipWith List.cons) (List.replicate side [])

/-- The 2S lines: the rows, then the columns (R114). -/
def gridLines (side : Nat) (rows : List (List Bool)) : List (List Bool) := rows ++ gridColumns side rows

/-- The lengths of the maximal runs of equal colour, after `n` cells of colour `b` (R115). -/
def runsFrom (b : Bool) (n : Nat) : List Bool → List Nat
  | [] => [n]
  | x :: xs => if x = b then runsFrom b (n + 1) xs else n :: runsFrom x 1 xs

/-- The lengths of the maximal runs of equal colour of a line (R115). -/
def runLengths : List Bool → List Nat
  | [] => []
  | x :: xs => runsFrom x 1 xs

/-- What a run scores: N1 + (ℓ − 5) for ℓ ≥ 5 (R115). -/
def runScore (n : Nat) : Nat := if 5 ≤ n then penN1 + (n - 5) else 0

/-- P1 (R115). -/
def penalty1 (lines : List (List Bool)) : Nat :=
  (lines.map fun line => ((runLengths line).map runScore).sum).sum

/-- The 2 × 2 blocks of one colour in two adjacent rows (R116). -/
def blocksInRows : List Bool → List Bool → Nat
  | a :: a' :: as, b :: b' :: bs =>
    (if a = a' ∧ a = b ∧ a = b' then 1 else 0) + blocksInRows (a' :: as) (b' :: bs)
  | _, _ => 0

/-- The 2 × 2 blocks of one colour in a grid (R116). -/
def blocksInGrid : List (List Bool) → Nat
  | r :: r' :: rows => blocksInRows r r' + blocksInGrid (r' :: rows)
  | _ => 0

/-- P2 (R116). -/
def penalty2 (rows : List (List Bool)) : Nat := penN2 * blocksInGrid rows

/-- The pattern dark, light, dark, dark, dark, light, dark (R117). -/
def finderLike : List Bool := [true, false, true, true, true, false, true]

/-- An occurrence starts here, with `before` the cells before it, nearest first: the seven cells are the
pattern, and the up to four cells on one side are all light (R117). -/
def finderLikeHere (before rest : List Bool) : Bool :=
  rest.take 7 == finderLike && ((before.take 4).all (! ·) || ((rest.drop 7).take 4).all (! ·))

/-- The occurrences in a line, from a cell on (R117). -/
def finderLikeFrom (before : List Bool) : List Bool → Nat
  | [] => 0
  | x :: xs => (if finderLikeHere before (x :: xs) then 1 else 0) + finderLikeFrom (x :: before) xs

/-- P3 (R117). -/
def penalty3 (lines : List (List Bool)) : Nat := penN3 * (lines.map (finderLikeFrom [])).sum

/-- The dark cells of a grid (R118). -/
def darkCount (rows : List (List Bool)) : Nat := (rows.map fun row => row.count true).sum

/-- P4: N4 · ⌊|2·D − T| · 10 / T⌋ (R118). -/
def penalty4 (side : Nat) (rows : List (List Bool)) : Nat :=
  penN4 * (natDist (2 * darkCount rows) (side * side) * 10 / (side * side))

/-- The four rule scores of a candidate. -/
structure Penalty where
  p1 : Nat
  p2 : Nat
  p3 : Nat
  p4 : Nat
  deriving DecidableEq, Repr

/-- PEN = P1 + P2 + P3 + P4 (R119). -/
def Penalty.total (p : Penalty) : Nat := p.p1 + p.p2 + p.p3 + p.p4

/-- The scores of a grid of `side` rows (R115 to R118). -/
def gridPenalty (side : Nat) (rows : List (List Bool)) : Penalty :=
  let lines := gridLines side rows
  ⟨penalty1 lines, penalty2 rows, penalty3 lines, penalty4 side rows⟩

/-- The scores of the candidate of mask m (R113, R119). -/
def maskPenalty (mat : Mat) (v : Nat) (l : BitVec 2) (m : BitVec 3) : Penalty :=
  gridPenalty (sideOf v) (colourRows (candidate mat v l m) (sideOf v))

/-- The masks 0..7. -/
def allMasks : List (BitVec 3) := [0, 1, 2, 3, 4, 5, 6, 7]

/-- The first of the pairs with the least second component, `best` standing before the list. -/
def firstMin (best : BitVec 3 × Nat) : List (BitVec 3 × Nat) → BitVec 3 × Nat
  | [] => best
  | x :: xs => if x.2 < best.2 then firstMin x xs else firstMin best xs

/-- SEL: the smallest m with the least total (R121). -/
def selectMask (total : BitVec 3 → Nat) : BitVec 3 :=
  (firstMin (0, total 0) ([1, 2, 3, 4, 5, 6, 7].map fun m => (m, total m))).1

/-! ### The commands -/

/-- The scores of mask m for MAT, V and L as they stand. -/
def State.penaltyOf (s : State) (m : BitVec 3) : Penalty := maskPenalty s.mat s.opV s.cfg.level m

/-- PD1..PD4 and MASKSEL.PDM <- the rule scores of mask m (R122, R123). -/
def State.setDetail (s : State) (m : BitVec 3) (p : Penalty) : State :=
  { s with
    pd1 := BitVec.ofNat 32 p.p1
    pd2 := BitVec.ofNat 32 p.p2
    pd3 := BitVec.ofNat 32 p.p3
    pd4 := BitVec.ofNat 32 p.p4
    maskSel := { s.maskSel with pdm := m } }

/-- What MSCORE m does after its checks and before `complete()` (R122). -/
def State.mscoreBody (s : State) (m : BitVec 3) : State :=
  let p := s.penaltyOf m
  { s with
    pen := s.pen.set m.toFin (BitVec.ofNat 32 p.total)
    penvalid := s.penvalid ||| (1#8 <<< m.toNat) }.setDetail m p

/-- MSCORE m (R122). -/
def execMscore (m : BitVec 3) (s : State) : Host.Outcome State Fault Refusal :=
  if s.cfgIllegal then .next (s.errorComplete 0x40 .badCfg)
  else if s.seqPlaced then .next (s.errorComplete 0x40 .seq)
  else .next ((s.mscoreBody m).complete 0x40)

/-- What MEVAL does after its checks and before `complete()` (R123). -/
def State.mevalBody (s : State) : State :=
  let sel := selectMask fun m => (s.penaltyOf m).total
  ({ s with
    pen := Vector.ofFn fun i : Fin 8 => BitVec.ofNat 32 (s.penaltyOf (BitVec.ofFin i)).total
    penvalid := 0xFF
    maskSel := { s.maskSel with sel := sel } }.setSelv true).setDetail sel (s.penaltyOf sel)

/-- MEVAL (R123). -/
def execMeval (s : State) : Host.Outcome State Fault Refusal :=
  if s.cfgIllegal then .next (s.errorComplete 0x41 .badCfg)
  else if s.seqPlaced then .next (s.errorComplete 0x41 .seq)
  else .next (s.mevalBody.complete 0x41)

/-- What MAPPLY m does after its checks and before `complete()` (R124). -/
def State.mapplyBody (s : State) (m : BitVec 3) : State :=
  { s with
    mat := candidate s.mat s.opV s.cfg.level m
    maskSel := { s.maskSel with applied := m }
    fmtBits := fmtbits s.cfg.level m
    verBits := if s.opV ≥ 7 then verbits s.opV else 0 }.setMstage 4

/-- MAPPLY m (R124). -/
def execMapply (m : BitVec 3) (s : State) : Host.Outcome State Fault Refusal :=
  if s.cfgIllegal then .next (s.errorComplete 0x42 .badCfg)
  else if s.seqPlaced then .next (s.errorComplete 0x42 .seq)
  else .next ((s.mapplyBody m).complete 0x42)

/-- MAPSEL (R125). -/
def execMapsel (s : State) : Host.Outcome State Fault Refusal :=
  if s.cfgIllegal then .next (s.errorComplete 0x43 .badCfg)
  else if s.seqMapsel then .next (s.errorComplete 0x43 .seq)
  else .next ((s.mapplyBody s.maskSel.sel).complete 0x43)

end Sys2Proof.Machine
end

