-- ==== Sys2Proof/Machine/Sequencing.lean ====
section
/-! DEFINITION. NOP and ENCODE (spec 44_sequencing.md). -/

namespace Sys2Proof.Machine

/-- NOP (R129). -/
def execNop (s : State) : Host.Outcome State Fault Refusal := .next (s.complete 0x00)

/-- MAPPLY with M = SEL, the last body of ENCODE (R131). -/
def State.applySelected (s : State) : State := s.mapplyBody s.maskSel.sel

/-- What ENCODE does after its checks and before `complete()`: the bodies of ECCODE, MINIT, MFUNC,
MDATA, MEVAL and MAPPLY(SEL) (R131). -/
def State.encodeBody (s : State) : State :=
  s.eccodeBody.minitBody.mfuncBody.mdataBody.mevalBody.applySelected

/-- ENCODE (R131). -/
def execEncode (s : State) : Host.Outcome State Fault Refusal :=
  if s.cfgIllegal then .next (s.errorComplete 0x50 .badCfg)
  else if s.lenWrong then .next (s.errorComplete 0x50 .len)
  else .next (s.encodeBody.complete 0x50)

end Sys2Proof.Machine
end

