-- ==== Sys2Proof/Machine/Dispatch.lean ====
section
/-! DEFINITION. The meaning of each command, one arm each. -/

namespace Sys2Proof.Machine

def exec (i : Instr) (s : State) : Host.Outcome State Fault Refusal :=
  match i with
  | .nop => Sys2Proof.Machine.execNop s
  | .gfadd => Sys2Proof.Machine.execGfadd s
  | .gfmul => Sys2Proof.Machine.execGfmul s
  | .gfexp => Sys2Proof.Machine.execGfexp s
  | .gflog => Sys2Proof.Machine.execGflog s
  | .rsgen n => Sys2Proof.Machine.execRsgen n s
  | .rsenc n k => Sys2Proof.Machine.execRsenc n k s
  | .eccode => Sys2Proof.Machine.execEccode s
  | .minit => Sys2Proof.Machine.execMinit s
  | .mfunc => Sys2Proof.Machine.execMfunc s
  | .mdata => Sys2Proof.Machine.execMdata s
  | .mscore m => Sys2Proof.Machine.execMscore m s
  | .meval => Sys2Proof.Machine.execMeval s
  | .mapply m => Sys2Proof.Machine.execMapply m s
  | .mapsel => Sys2Proof.Machine.execMapsel s
  | .encode => Sys2Proof.Machine.execEncode s

end Sys2Proof.Machine
end

