-- ==== Sys2Proof/Machine/Step.lean ====
section
/-! DEFINITION. One step of the machine: the next turn of the total order of spec 20_memory.md R62, a
host access, a core step or a hardware reset; and the core's step when no turn is left (weak fairness,
44_sequencing.md R127, 70_reset_and_hazards.md R157). -/

namespace Sys2Proof.Machine

/-- The core's turn (R127): execute the pending command; complete a bad word with BADOP; take no step
when nothing is pending (R62, R146). -/
def coreStep (s : State) : Host.Outcome State Fault Refusal :=
  match s.fetch with
  | .idle => .next s
  | .badOp op => .next (s.errorComplete op .badOp)
  | .command i => exec i s

/-- The next turn is used up. -/
def State.dropTurn (s : State) : State := { s with agenda := s.agenda.tail }

/-- One step. -/
def step (s : State) : Host.Outcome State Fault Refusal :=
  match s.agenda with
  | [] => coreStep s
  | .core :: _ => coreStep s.dropTurn
  | .host a :: _ => .next (s.dropTurn.hostAccess a)
  | .hardReset :: _ => .next s.dropTurn.hardReset

/-- `s` with a command word pending and the core's turn next. A QRSE command is one 32-bit word (R67);
the bits above `nbits` are 0. With no turn before it, the very next step is the core's (DESIGN CHOICE, log entry 4). -/
def State.withFetchWord (s : State) (nbits w : Nat) : State :=
  { s with pendcmd := some (BitVec.ofNat 32 (w % 2 ^ nbits)), agenda := [] }

end Sys2Proof.Machine
end

