-- ==== Sys2Proof/Machine/HostProgram.lean ====
section
/-! DEFINITION. Host programs as turns: the addresses of the registers and the pseudo-operations cmd,
wait, run, ack, wrbuf and setcfg (spec 30_encoding.md R73, R74; 10_state.md R18). A program is the list
of its accesses with the core's turn where it falls; `wait` is given the number of polls that find
BUSY = 1 before it falls. -/

namespace Sys2Proof.Machine

/-- The offsets of the registers that host programs write or poll (R18). -/
def addrCmd : Addr := 0x008
def addrStatus : Addr := 0x00C
def addrCtrl : Addr := 0x010
def addrCfg : Addr := 0x014
def addrDlen : Addr := 0x018
def addrGfA : Addr := 0x01C
def addrGfB : Addr := 0x020

/-- `wr <loc>, <value>` (R73). -/
def wr (addr : Addr) (d : Word) : Turn := .host (.write addr d)

/-- `rd <loc>` (R73). -/
def rd (addr : Addr) : Turn := .host (.read addr)

/-- `cmd X` (R74). -/
def cmdTurns (i : Instr) : List Turn := [wr addrCmd (encode i)]

/-- `wait`, with `polls` reads of STATUS before the core's turn and one after it (R74). -/
def waitTurns (polls : Nat) : List Turn :=
  List.replicate polls (rd addrStatus) ++ [.core, rd addrStatus]

/-- `run X` (R74). -/
def runTurns (i : Instr) (polls : Nat) : List Turn := cmdTurns i ++ waitTurns polls

/-- `ack` (R74). -/
def ackTurns : List Turn := [wr addrStatus 0x0000000E]

/-- The words of `wrbuf`: four bytes each, little-endian, the last one filled with zeros (R74). -/
def wrbufWords (bs : List Byte) : List Word :=
  (List.range ((bs.length + 3) / 4)).map fun j =>
    bytesWord (bs.getD (4 * j) 0) (bs.getD (4 * j + 1) 0) (bs.getD (4 * j + 2) 0) (bs.getD (4 * j + 3) 0)

/-- `wrbuf DATA_BUF+i, b0, …` (R74). -/
def wrbufTurns (i : Nat) (bs : List Byte) : List Turn :=
  (wrbufWords bs).zipIdx.map fun p => wr (BitVec.ofNat 16 (dataBase + i + 4 * p.2)) p.1

/-- `setcfg V, L` (R74). -/
def setcfgTurns (v l : Nat) : List Turn := [wr addrCfg (BitVec.ofNat 32 v ||| (BitVec.ofNat 32 l <<< 8))]

/-- The encode procedure of R130 from its step 3 on: configure, write the CodewordStream, `run ENCODE`. -/
def encodeProgram (v l : Nat) (d : List Byte) (polls : Nat) : List Turn :=
  setcfgTurns v l ++ [wr addrDlen (BitVec.ofNat 32 d.length)] ++ wrbufTurns 0 d ++ runTurns .encode polls

end Sys2Proof.Machine
end

