-- ==== Sys2Proof/Safety.lean ====
section
/-! DEFINITION. What a safe run of QRSE is, in the terms the statements use: the predicates on states
that every step keeps; and the places of blocks, lines and occurrences in the words of the rules. -/

namespace Sys2Proof.Machine

/-- The data is in canonical form: the written bytes rise in address and lie in the buffers, and MAT has
177 rows of 177 cells (spec 10_state.md R34, 20_memory.md R59). -/
abbrev State.Wf (s : State) : Prop := Memory.Wf s.mem ∧ Mat.Wf s.mat

/-- V is a legal version: 1..40 (R7, R23). -/
abbrev State.VersionLegal (s : State) : Prop := 1 ≤ s.opV ∧ s.opV ≤ 40

/-- DLEN = NDATA(V, L) (R24, R92). -/
abbrev State.LenRight (s : State) : Prop := s.dlen.toNat = s.opRow.ndata

/-- The codes that are ever produced: MSTAGE 0..4, ECODE 0..5, BCODE 0..4 (R32, R133, R52, U16). -/
abbrev State.LegalCodes (s : State) : Prop :=
  s.status.mstage.toNat ≤ 4 ∧ s.status.ecode.toNat ≤ 5 ∧ s.status.bcode.toNat ≤ 4

/-- The error flags say what their codes say, and while BUSY = 1 DONE, ERR and ECODE are 0 (R21, R52,
R58, R126, R133). -/
abbrev State.FlagsAgree (s : State) : Prop :=
  (s.status.err = true ↔ s.status.ecode ≠ 0) ∧ (s.status.berr = true ↔ s.status.bcode ≠ 0) ∧
    (s.busy = true → s.status.done = false ∧ s.status.err = false ∧ s.status.ecode = 0)

/-- MSTAGE, SELV, PENVALID and SIDE agree: a matrix has a legal version and its side; PENVALID is set
only from stage 3 on; SELV = 1 only with all eight penalties valid (R27, R29, R32, R93, R123). -/
abbrev State.StagesAgree (s : State) : Prop :=
  (s.status.mstage ≠ 0 → s.VersionLegal ∧ s.side.toNat = s.opSide) ∧
    (s.penvalid ≠ 0 → 3 ≤ s.status.mstage.toNat) ∧
    (s.status.selv = true → s.penvalid = 0xFF)

/-- CWV tells the truth: CW_BUF[0..NTOTAL) is the final codeword sequence of DATA_BUF[0..NDATA) for CFG
as it now stands, and the EC-structure registers are the row's (R26, R31). -/
def State.CwvTrue (s : State) : Prop :=
  s.status.cwv = true →
    s.VersionLegal ∧ s.LenRight ∧ s.memRead cwBase 0 s.opRow.ntotal = s.codewords ∧
      s.ntotal.toNat = s.opRow.ntotal ∧ s.ndata.toNat = s.opRow.ndata ∧
      s.blocks = s.opRow.blocksWord ∧ s.remBits.toNat = s.opRow.remBits

/-- From the first MINIT on, every cell outside S × S is unset (R35). -/
def State.OutsideUnset (s : State) : Prop :=
  s.status.mstage ≠ 0 →
    ∀ r c, (s.opSide ≤ r ∨ s.opSide ≤ c) → Mat.cell s.mat r c = MCell.unset

/-- The matrix is what its stage says, cell by cell inside S × S: at stage 1 every cell is unset; from
stage 2 on the cells that `functionWrites` names are the function cells, and those that are not reserved
hold a colour; at stage 2 the others are unset, from stage 3 on they hold a bit, and at stage 4 every
cell holds a colour (R32, R103, R105, R124, R132). -/
def State.MatrixAsStage (s : State) : Prop :=
  (s.status.mstage = 1 → ∀ r c, Mat.cell s.mat r c = MCell.unset) ∧
    (2 ≤ s.status.mstage.toNat →
      ∀ r c, r < s.opSide → c < s.opSide →
        ((Mat.cell s.mat r c).func = true ↔ ∃ x, ((r, c), x) ∈ functionWrites s.opV) ∧
          ((Mat.cell s.mat r c).func = true → (r, c) ∉ reservedCells s.opV →
            (Mat.cell s.mat r c).set = true)) ∧
    (s.status.mstage = 2 →
      ∀ r c, r < s.opSide → c < s.opSide → (Mat.cell s.mat r c).func = false →
        Mat.cell s.mat r c = MCell.unset) ∧
    (3 ≤ s.status.mstage.toNat →
      ∀ r c, r < s.opSide → c < s.opSide → (r, c) ∉ reservedCells s.opV →
        (Mat.cell s.mat r c).set = true) ∧
    (s.status.mstage = 4 →
      ∀ r c, r < s.opSide → c < s.opSide → (Mat.cell s.mat r c).set = true)

/-- A command runs to its own effect, not to a command error: the exact condition for each (R79 to R82,
R90 to R93, R103, R106, R122 to R125, R129, R131, R133, R134). -/
def Runs (i : Instr) (s : State) : Prop :=
  match i with
  | .nop | .gfadd | .gfmul | .gfexp => True
  | .gflog => s.gfA ≠ 0
  | .rsgen n => 1 ≤ n.toNat ∧ n.toNat ≤ 254
  | .rsenc n k => 1 ≤ n.toNat ∧ n.toNat ≤ 254 ∧ 1 ≤ k.toNat ∧ k.toNat + n.toNat ≤ 255
  | .eccode | .encode => s.VersionLegal ∧ s.LenRight
  | .minit => s.VersionLegal
  | .mfunc => s.VersionLegal ∧ s.status.mstage = 1
  | .mdata => s.VersionLegal ∧ s.status.mstage = 2 ∧ s.status.cwv = true
  | .mscore _ | .meval | .mapply _ => s.VersionLegal ∧ s.status.mstage = 3
  | .mapsel => s.VersionLegal ∧ s.status.mstage = 3 ∧ s.status.selv = true

/-- Every word with this OP that has one of these bits set raises BADOP (R71, R72). -/
def RaisesBadOp (op : BitVec 8) (unused : Word) : Prop :=
  ∀ w : Word, opField w = op → w &&& unused ≠ 0 → ∃ e, decode w = .error e

/-- An aligned address that R59 marks unmapped. -/
abbrev UnmappedAddr (a : Addr) : Prop :=
  a.toNat % 4 = 0 ∧
    (a.toNat = 0x4C ∨ (0x80 ≤ a.toNat ∧ a.toNat < 0x1000) ∨ (0x2200 ≤ a.toNat ∧ a.toNat < 0x3000) ∨
      (0x4000 ≤ a.toNat ∧ a.toNat < 0x8000))

/-- An aligned address of a read-only location (R50): ID, REV, GF_RES to VERBITS, PEN0 to PD4, ECC_BUF,
GEN_BUF, CW_BUF and the MAT window. -/
abbrev ReadOnlyAddr (a : Addr) : Prop :=
  a.toNat % 4 = 0 ∧
    (a.toNat < 0x08 ∨ (0x24 ≤ a.toNat ∧ a.toNat < 0x4C) ∨ (0x50 ≤ a.toNat ∧ a.toNat < 0x80) ∨
      (0x2000 ≤ a.toNat ∧ a.toNat < 0x2200) ∨ (0x3000 ≤ a.toNat ∧ a.toNat < 0x4000) ∨ 0x8000 ≤ a.toNat)

/-- An aligned address of CMD, CFG, DLEN, GF_A, GF_B or a DATA_BUF word (R51). -/
abbrev LockedAddr (a : Addr) : Prop :=
  a.toNat % 4 = 0 ∧
    (a.toNat = 0x08 ∨ a.toNat = 0x14 ∨ a.toNat = 0x18 ∨ a.toNat = 0x1C ∨ a.toNat = 0x20 ∨
      (0x1000 ≤ a.toNat ∧ a.toNat < 0x2000))

/-- The non-function cells of version V in the order Z(S), from the geometry alone (R104, R105). -/
def dataOrder (v : Nat) : List (Nat × Nat) :=
  (zigzag (sideOf v)).filter fun p => !(functionWrites v).any fun w => w.1 == p

/-- The matrix right after MINIT: every cell unset (R93). -/
def clearedMat : Mat := List.replicate 177 (List.replicate 177 MCell.unset)

/-- len(b): the number of data codewords of block b (41_reed_solomon.md R87). -/
def blockLen (r : BlockRow) (b : Nat) : Nat := if b < r.nb1 then r.nd1 else r.nd1 + 1

/-- s(b): the index in the stream where block b begins, the sum of the lengths before it (R87). -/
def blockStart (r : BlockRow) (b : Nat) : Nat := ((List.range b).map (blockLen r)).sum

/-- Line k of a colour grid g of side S: row k for k < S, column k - S after that (R114). -/
def lineOf (g : Nat → Nat → Bool) (side k : Nat) : List Bool :=
  (List.range side).map fun x => if k < side then g k x else g x (k - side)

/-- The runs (colour, length) are the maximal runs of equal colour of a line: none is empty, adjacent
ones differ in colour, and written one after another they are the line (R115). -/
def IsRuns (runs : List (Bool × Nat)) (line : List Bool) : Prop :=
  (∀ q ∈ runs, 1 ≤ q.2) ∧ runs.IsChain (fun a b => a.1 ≠ b.1) ∧
    runs.flatMap (fun q => List.replicate q.2 q.1) = line

/-- A finder-like occurrence starts at x: the seven cells are dark, light, dark, dark, dark, light, dark,
and all of the up to four cells before them, or all of the up to four after them, are light (R117). -/
abbrev FinderLikeAt (cells : List Bool) (x : Nat) : Prop :=
  (∀ e < 7, cells[x + e]? = some (e != 1 && e != 5)) ∧
    ((∀ k < x, x ≤ k + 4 → cells[k]? = some false) ∨
      ∀ k < cells.length, x + 7 ≤ k → k < x + 11 → cells[k]? = some false)

end Sys2Proof.Machine
end

