-- ==== Sys2Proof/Certificates/Slice0/Obligations.lean ====
section
/-! DEFINITION. The statements for the provers, from the numbered rules of spec/. -/

open Sys2Proof Sys2Proof.Machine

/-- For every command, with every operand value, decoding the word that encode gives yields that command.
(30_encoding.md R70, 30_encoding.md R71) -/
def Obligations.DecodeEncodeRoundTrip : Prop :=
  ∀ i : Instr, decode (encode i) = .ok i

/-- For every 32-bit word: it decodes to a command if and only if its OP is defined and Z and every unused
field are 0; and then the command has the fields of the word and its encoding is the word.
(30_encoding.md R68, 30_encoding.md R72, 30_encoding.md R70) -/
def Obligations.DecodeAgreesWithFields : Prop :=
  ∀ w : Word,
    ((∃ i, decode w = .ok i) ↔ (CmdFields.ofWord w).wellFormed = true) ∧
      ∀ i, decode w = .ok i → i.fields = CmdFields.ofWord w ∧ encode i = w

/-- For every word: either a row of the opcode map matches it and decoding gives that row's command, or no
row matches, decoding fails, and the core step completes the pending word with BADOP; and no two rows
match one word. (R71) -/
def Obligations.EveryWordOneCommandOrBadOp : Prop :=
  ∀ w : Word,
    ((∃ r ∈ opcodeTable, w &&& r.mask = r.fixedBits ∧ decode w = .ok (r.build w)) ∨
      ((∀ r ∈ opcodeTable, w &&& r.mask ≠ r.fixedBits) ∧ (∃ e, decode w = .error e) ∧
        ∀ s : State, s.pendcmd = some w → coreStep s = .next (s.errorComplete (opField w) .badOp))) ∧
      ∀ r ∈ opcodeTable, ∀ r' ∈ opcodeTable, w &&& r.mask = r.fixedBits →
        w &&& r'.mask = r'.fixedBits → r.mnemonic = r'.mnemonic

/-- The words of NOP, GFMUL, RSGEN 7, RSENC 13, 13, ECCODE, MFUNC, MSCORE 3, MAPPLY 2, ENCODE decode to
those commands; 0x44, 0x840 and 0x110 do not decode. (30_encoding.md R70, 41_reed_solomon.md R90,
43_mask_evaluation.md R122, 95_test_vectors.md E2, E3, A15) -/
def Obligations.SpecWordsDecode : Prop :=
  decode 0x00000000 = .ok .nop ∧ decode 0x00000011 = .ok .gfmul ∧ decode 0x00070020 = .ok (.rsgen 7) ∧
    decode 0x0D0D0021 = .ok (.rsenc 13 13) ∧ decode 0x00000022 = .ok .eccode ∧
    decode 0x00000031 = .ok .mfunc ∧ decode 0x00000340 = .ok (.mscore 3) ∧
    decode 0x00000242 = .ok (.mapply 2) ∧ decode 0x00000050 = .ok .encode ∧
    decode 0x00000044 = .error (.reservedOp 0x44) ∧ decode 0x00000840 = .error (.unusedFieldSet 0x40) ∧
    decode 0x00000110 = .error (.unusedFieldSet 0x10)

/-- When PENDCMD holds a word that decodes to the well-formed command i, the step with no turn left is exec
of i at the state, and the step with the core's turn next is exec of i at the state with that turn used
up. (The agenda of turns is the model's choice, log entry 4.) (44_sequencing.md R127) -/
def Obligations.StepRunsDecodedCommand : Prop :=
  ∀ (s : State) (w : Word) (i : Instr), s.pendcmd = some w → decode w = .ok i → i.wellFormed = true →
    (s.agenda = [] → step s = exec i s) ∧
      ∀ ts, s.agenda = .core :: ts → step s = exec i { s with agenda := ts }

/-- When PENDCMD holds a word whose OP is not one of the 16, or that has a non-zero Z or unused field, the
core step ends with the error completion BADOP and the OP of the word. (R72) -/
def Obligations.IllFormedWordCompletesWithBadOp : Prop :=
  CmdFields.definedOps.length = 16 ∧ CmdFields.definedOps.Nodup ∧
    ∀ (s : State) (w : Word), s.pendcmd = some w → (CmdFields.ofWord w).wellFormed = false →
      coreStep s = .next (s.errorComplete (w.extractLsb' 0 8) .badOp)

/-- A host turn performs its access and nothing else; a reset turn performs the hardware reset; with nothing
pending the core's turn is only used up and a machine with no turn left stays unchanged; a step with no
turn left, or with the core's turn next, is the core step of the spec. (The agenda of turns, and reset
as one of them, are the model's choice, log entries 4 and 14.) (20_memory.md R47, 20_memory.md R62,
60_exceptions.md R146, 70_reset_and_hazards.md R147) -/
def Obligations.HostResetAndIdleTurns : Prop :=
  ∀ (s : State) (ts : List Turn),
    (∀ a, s.agenda = .host a :: ts → step s = .next ({ s with agenda := ts }.hostAccess a)) ∧
      (s.agenda = .hardReset :: ts → step s = .next { s with agenda := ts }.hardReset) ∧
      (s.pendcmd = none → s.agenda = .core :: ts → step s = .next { s with agenda := ts }) ∧
      (s.pendcmd = none → s.agenda = [] → step s = .next s) ∧
      (s.agenda = [] → step s = coreStep s) ∧
      (s.agenda = .core :: ts → step s = coreStep { s with agenda := ts })

/-- From every state whatsoever a step answers a next state, and so does every command.
(70_reset_and_hazards.md R158) -/
def Obligations.EveryStepHasNextState : Prop :=
  (∀ s : State, ∃ t, step s = .next t) ∧ ∀ (i : Instr) (s : State), ∃ t, exec i s = .next t

/-- From every state, running one step more than there are turns still to come ends in a state with no turn
left and no command pending. (The agenda of turns is the model's choice, log entry 4.) (44_sequencing.md
R127, 20_memory.md R62, 70_reset_and_hazards.md R157) -/
def Obligations.CoreStepEventuallyTaken : Prop :=
  ∀ s : State, ∃ t, Host.Core.run core (s.agenda.length + 1) s = .next t ∧ t.agenda = [] ∧ t.busy = false

/-- For every command and state: either it completes (BUSY 0, DONE 1, ERR 0, ECODE 0, LASTOP its OP), or the
next state is the state before with BUSY 0, DONE 1, ERR 1, ECODE the code of an error, LASTOP its OP and
nothing else changed. complete() and error_complete() themselves change those STATUS fields and PENDCMD
only, for every op and every error; the codes are BADOP 1, BADCFG 2, BADARG 3, SEQ 4, LEN 5. (R128,
R136) -/
def Obligations.CompletionAndPreciseErrors : Prop :=
  (∀ (s : State) (op : BitVec 8), s.complete op =
      { s with
        pendcmd := none
        status := { s.status with done := true, err := false, ecode := 0, lastop := op } }) ∧
    (∀ (s : State) (op : BitVec 8) (e : CmdError), s.errorComplete op e =
      { s with
        pendcmd := none
        status := { s.status with done := true, err := true, ecode := e.code, lastop := op } }) ∧
    (CmdError.badOp.code = 1 ∧ CmdError.badCfg.code = 2 ∧ CmdError.badArg.code = 3 ∧ CmdError.seq.code = 4 ∧
      CmdError.len.code = 5) ∧
    ∀ (i : Instr) (s : State), ∃ t, exec i s = .next t ∧
      ((t.busy = false ∧ t.status.done = true ∧ t.status.err = false ∧ t.status.ecode = 0 ∧
          t.status.lastop = i.op) ∨
        ∃ e : CmdError, t =
          { s with
            pendcmd := none
            status := { s.status with done := true, err := true, ecode := e.code, lastop := i.op } })

/-- For every command and state: the command completes with ERR = 0 if and only if the condition Runs for
that command holds (legal version, right length, legal operands, right stage, as the command needs).
(60_exceptions.md R133, 60_exceptions.md R134) -/
def Obligations.CommandRunsExactlyWhenAllowed : Prop :=
  ∀ (i : Instr) (s t : State), exec i s = .next t → (t.status.err = false ↔ Runs i s)

/-- With an illegal version all nine commands that use CFG end with BADCFG; with a legal one MFUNC, MDATA,
MSCORE, MEVAL, MAPPLY and MAPSEL end with SEQ when their stage precondition fails; the commands without
a precondition never end with SEQ. (R134) -/
def Obligations.StagePreconditions : Prop :=
  ∀ (s : State) (m : BitVec 3),
    (¬ s.VersionLegal →
      ∀ i ∈ [Instr.eccode, .minit, .mfunc, .mdata, .mscore m, .meval, .mapply m, .mapsel, .encode],
        exec i s = .next (s.errorComplete i.op .badCfg)) ∧
      (s.VersionLegal →
        (s.status.mstage ≠ 1 → exec .mfunc s = .next (s.errorComplete 0x31 .seq)) ∧
        (¬ (s.status.mstage = 2 ∧ s.status.cwv = true) → exec .mdata s = .next (s.errorComplete 0x32 .seq)) ∧
        (s.status.mstage ≠ 3 →
          exec (.mscore m) s = .next (s.errorComplete 0x40 .seq) ∧
          exec .meval s = .next (s.errorComplete 0x41 .seq) ∧
          exec (.mapply m) s = .next (s.errorComplete 0x42 .seq)) ∧
        (¬ (s.status.mstage = 3 ∧ s.status.selv = true) →
          exec .mapsel s = .next (s.errorComplete 0x43 .seq))) ∧
      ∀ n k : BitVec 8, ∀ i ∈ [Instr.minit, .nop, .gfadd, .gfmul, .gfexp, .gflog, .rsgen n, .rsenc n k, .eccode, .encode],
        ∀ t, exec i s = .next t → t.status.ecode ≠ CmdError.seq.code

/-- NOP has the word 0, raises BADOP for any non-zero bit 31:8, and completes with LASTOP 0; from reset it
leaves STATUS = 2. (R129) -/
def Obligations.NopCompletes : Prop :=
  encode .nop = 0x00000000 ∧ RaisesBadOp 0x00 0xFFFFFF00 ∧ (∀ s : State, exec .nop s = .next (s.complete 0x00)) ∧
    (State.reset.complete 0x00).statusWord = 0x00000002

/-- GFADD has the word 0x10, raises BADOP for any non-zero bit 31:8, and leaves GF_RES = GF_A xor GF_B,
every other register, buffer byte and cell unchanged. (R79) -/
def Obligations.GfaddResult : Prop :=
  encode .gfadd = 0x00000010 ∧ RaisesBadOp 0x10 0xFFFFFF00 ∧
    ∀ s : State, exec .gfadd s = .next ({ s with gfRes := s.gfA ^^^ s.gfB }.complete 0x10)

/-- GFMUL has the word 0x11, raises BADOP for any non-zero bit 31:8, and leaves GF_RES = gfmul(GF_A, GF_B),
which is the carry-less product reduced by 0x11D, and everything else unchanged. (R80) -/
def Obligations.GfmulResult : Prop :=
  encode .gfmul = 0x00000011 ∧ RaisesBadOp 0x11 0xFFFFFF00 ∧
    ∀ s : State, exec .gfmul s = .next ({ s with gfRes := gfmul s.gfA s.gfB }.complete 0x11) ∧
      gfmul s.gfA s.gfB = gfmulClmul s.gfA s.gfB

/-- GFEXP has the word 0x12, raises BADOP for any non-zero bit 31:8, and leaves GF_RES = GF_EXP[GF_A mod
255], which is not 0, and everything else unchanged. (R81) -/
def Obligations.GfexpResult : Prop :=
  encode .gfexp = 0x00000012 ∧ RaisesBadOp 0x12 0xFFFFFF00 ∧
    ∀ s : State, exec .gfexp s = .next ({ s with gfRes := gfExp (s.gfA.toNat % 255) }.complete 0x12) ∧
      gfExp (s.gfA.toNat % 255) ≠ 0

/-- GFLOG has the word 0x13, raises BADOP for any non-zero bit 31:8; for GF_A = 0 it ends with BADARG and
nothing but STATUS changes; else it leaves GF_RES = GF_LOG[GF_A], in 0..254, and everything else
unchanged. (R82) -/
def Obligations.GflogResult : Prop :=
  encode .gflog = 0x00000013 ∧ RaisesBadOp 0x13 0xFFFFFF00 ∧
    ∀ s : State,
      (s.gfA = 0 → exec .gflog s = .next (s.errorComplete 0x13 .badArg)) ∧
      (s.gfA ≠ 0 → exec .gflog s = .next ({ s with gfRes := BitVec.ofNat 8 (gfLog s.gfA) }.complete 0x13) ∧
        gfLog s.gfA ≤ 254)

/-- GF_EXP[0] = 1, each later entry is the one before multiplied by alpha modulo 0x11D, and GF_LOG is its
inverse on the 255 non-zero elements. (10_state.md R40) -/
def Obligations.GfTablesGenerated : Prop :=
  gfExp 0 = 1 ∧ (∀ i < 254, gfExp (i + 1) = gfDouble (gfExp i)) ∧ (∀ i < 255, gfLog (gfExp i) = i) ∧
    ∀ a : Byte, a ≠ 0 → gfLog a < 255 ∧ gfExp (gfLog a) = a

/-- Addition and multiplication are commutative and associative, multiplication distributes over addition, 0
and 1 are their identities, multiplying by 0 gives 0, every non-zero element has exactly the inverse the
tables give, and alpha to the 255 is 1. (R78) -/
def Obligations.FieldLaws : Prop :=
  (∀ a b : Byte, a ^^^ b = b ^^^ a ∧ gfmul a b = gfmul b a) ∧
    (∀ a b c : Byte, (a ^^^ b) ^^^ c = a ^^^ (b ^^^ c) ∧ gfmul (gfmul a b) c = gfmul a (gfmul b c)) ∧
    (∀ a b c : Byte, gfmul a (b ^^^ c) = gfmul a b ^^^ gfmul a c) ∧
    (∀ a : Byte, a ^^^ 0 = a ∧ gfmul a 1 = a ∧ gfmul a 0 = 0) ∧
    (∀ a : Byte, a ≠ 0 → ∀ b : Byte, gfmul a b = 1 ↔ b = gfExp ((255 - gfLog a) % 255)) ∧
    gfmul (gfExp 254) (gfExp 1) = 1 ∧ gfExp 1 = 2

/-- RSGEN has the word 0x20 with N in 23:16 and raises BADOP for other bits; for N = 0 or 255 it ends with
BADARG; else GEN_BUF holds the N+1 coefficients and then zeros, every byte outside GEN_BUF and every
register is unchanged. (R90) -/
def Obligations.RsgenResult : Prop :=
  RaisesBadOp 0x20 0xFF00FF00 ∧ ∀ (n : BitVec 8) (s : State),
    encode (.rsgen n) = BitVec.ofNat 32 (0x20 + 65536 * n.toNat) ∧
    (n = 0 ∨ n = 255 → exec (.rsgen n) s = .next (s.errorComplete 0x20 .badArg)) ∧
    (Memory.Wf s.mem → 1 ≤ n.toNat → n.toNat ≤ 254 → ∃ t, exec (.rsgen n) s = .next t ∧
      t = { s with mem := t.mem }.complete 0x20 ∧
      t.memRead genBase 0 256 = genpoly n.toNat ++ List.replicate (255 - n.toNat) 0 ∧
      ∀ a, (a < 0x2100 ∨ 0x2200 ≤ a) → t.memByte a = s.memByte a)

/-- RSENC has the word 0x21 with N in 23:16 and K in 31:24 and raises BADOP for bits 15:8; for N outside
1..254, K = 0 or K + N > 255 it ends with BADARG; else ECC_BUF holds the N EC codewords and then zeros,
every byte outside ECC_BUF and every register, CWV included, is unchanged. (R91) -/
def Obligations.RsencResult : Prop :=
  RaisesBadOp 0x21 0x0000FF00 ∧ ∀ (n k : BitVec 8) (s : State),
    encode (.rsenc n k) = BitVec.ofNat 32 (0x21 + 65536 * n.toNat + 16777216 * k.toNat) ∧
    (n.toNat < 1 ∨ n.toNat > 254 ∨ k.toNat < 1 ∨ k.toNat + n.toNat > 255 →
      exec (.rsenc n k) s = .next (s.errorComplete 0x21 .badArg)) ∧
    (Memory.Wf s.mem → 1 ≤ n.toNat → n.toNat ≤ 254 → 1 ≤ k.toNat → k.toNat + n.toNat ≤ 255 →
      ∃ t, exec (.rsenc n k) s = .next t ∧ t = { s with mem := t.mem }.complete 0x21 ∧
        t.memRead eccBase 0 256 =
          rsrem (s.memRead dataBase 0 k.toNat) n.toNat ++ List.replicate (256 - n.toNat) 0 ∧
        ∀ a, (a < 0x2000 ∨ 0x2100 ≤ a) → t.memByte a = s.memByte a)

/-- For 1 <= N <= 254 genpoly N has N+1 coefficients, the first is 1, and its value at alpha^i is 0 for
every i < N. (41_reed_solomon.md R84) -/
def Obligations.GeneratorPolynomialRoots : Prop :=
  ∀ n : Nat, 1 ≤ n → n ≤ 254 →
    (genpoly n).length = n + 1 ∧ (genpoly n)[0]? = some 1 ∧ ∀ i < n, polyEval (genpoly n) (gfExp i) = 0

/-- For every data block and 1 <= N <= 254, rsrem gives N EC codewords, and the polynomial of the data
codewords followed by them is 0 at alpha^i for every i < N. (41_reed_solomon.md R85, 41_reed_solomon.md
R86) -/
def Obligations.CodewordPolynomialHasTheRoots : Prop :=
  ∀ (d : List Byte) (n : Nat), 1 ≤ n → n ≤ 254 →
    (rsrem d n).length = n ∧ ∀ i < n, polyEval (d ++ rsrem d n) (gfExp i) = 0

/-- rsrem of the sum of two blocks of one length is the sum of their EC codewords; all-zero data gives all-
zero EC codewords; a leading zero data codeword does not change them. (41_reed_solomon.md R86) -/
def Obligations.EcCodewordsLinear : Prop :=
  ∀ (d e : List Byte) (n : Nat), 1 ≤ n → n ≤ 254 →
    (d.length = e.length → rsrem (polyAdd d e) n = polyAdd (rsrem d n) (rsrem e n)) ∧
    (∀ k, rsrem (List.replicate k 0) n = List.replicate n 0) ∧ rsrem (0 :: d) n = rsrem d n

/-- For every version and level and every stream of NDATA codewords: the blocks in order give the stream
back and have the lengths of the row; the final sequence has NTOTAL codewords; its first NDATA are a
permutation of the stream; data codeword j of block b stands at j*NB+b, and in the last, longer column
of the NB2 blocks at ND1*NB+(b-NB1); EC codeword j of block b, which is the j-th of the rsrem of the
block, stands at NDATA+j*NB+b; the tables satisfy NTOTAL = NDATA + NB*NEC and NDATA = NB1*ND1 + NB2*ND2.
(41_reed_solomon.md R87, 41_reed_solomon.md R88, 10_state.md R41) -/
def Obligations.FinalSequenceSound : Prop :=
  ∀ (v l : Nat) (d : List Byte), 1 ≤ v → v ≤ 40 → l < 4 → d.length = (blockRow v l).ndata →
    (splitRuns d (blockRow v l).blockLengths).flatten = d ∧
    (splitRuns d (blockRow v l).blockLengths).map List.length = (blockRow v l).blockLengths ∧
    (finalCodewords (blockRow v l) d).length = (blockRow v l).ntotal ∧
    ((finalCodewords (blockRow v l) d).take (blockRow v l).ndata).Perm d ∧
    (∀ b j, b < (blockRow v l).nb1 + (blockRow v l).nb2 → j < blockLen (blockRow v l) b →
      (finalCodewords (blockRow v l) d)[if j < (blockRow v l).nd1
          then j * ((blockRow v l).nb1 + (blockRow v l).nb2) + b
          else (blockRow v l).nd1 * ((blockRow v l).nb1 + (blockRow v l).nb2) + (b - (blockRow v l).nb1)]? =
        d[blockStart (blockRow v l) b + j]?) ∧
    (∀ b j, b < (blockRow v l).nb1 + (blockRow v l).nb2 → j < (blockRow v l).nec →
      (finalCodewords (blockRow v l) d)[
          (blockRow v l).ndata + j * ((blockRow v l).nb1 + (blockRow v l).nb2) + b]? =
        (rsrem ((d.drop (blockStart (blockRow v l) b)).take (blockLen (blockRow v l) b))
          (blockRow v l).nec)[j]?) ∧
    (blockRow v l).ntotal =
      (blockRow v l).ndata + ((blockRow v l).nb1 + (blockRow v l).nb2) * (blockRow v l).nec ∧
    (blockRow v l).ndata =
      (blockRow v l).nb1 * (blockRow v l).nd1 + (blockRow v l).nb2 * ((blockRow v l).nd1 + 1)

/-- ECCODE has the word 0x22 and raises BADOP for other bits; it ends with BADCFG for an illegal version and
with LEN for DLEN not NDATA; else CW_BUF holds the final codewords and then zeros, NTOTAL, NDATA,
BLOCKS, REMBITS hold the row, CWV = 1, and every other register, every byte outside CW_BUF and every
cell is unchanged. (R92) -/
def Obligations.EccodeResult : Prop :=
  encode .eccode = 0x00000022 ∧ RaisesBadOp 0x22 0xFFFFFF00 ∧ ∀ s : State,
    (¬ s.VersionLegal → exec .eccode s = .next (s.errorComplete 0x22 .badCfg)) ∧
    (s.VersionLegal → ¬ s.LenRight → exec .eccode s = .next (s.errorComplete 0x22 .len)) ∧
    (Memory.Wf s.mem → s.VersionLegal → s.LenRight → ∃ t, exec .eccode s = .next t ∧
      t = { s with
            mem := t.mem, ntotal := t.ntotal, ndata := t.ndata, blocks := t.blocks, remBits := t.remBits
            status := { s.status with cwv := true } }.complete 0x22 ∧
      t.ntotal.toNat = s.opRow.ntotal ∧ t.ndata.toNat = s.opRow.ndata ∧
      t.remBits.toNat = s.opRow.remBits ∧
      t.blocks.toNat =
        s.opRow.nb1 + 256 * s.opRow.nd1 + 65536 * s.opRow.nb2 + 16777216 * s.opRow.nec ∧
      t.memRead cwBase 0 4096 =
        finalCodewords s.opRow (s.memRead dataBase 0 s.opRow.ndata) ++
          List.replicate (4096 - s.opRow.ntotal) 0 ∧
      ∀ a, (a < 0x3000 ∨ 0x4000 ≤ a) → t.memByte a = s.memByte a)

/-- MINIT has the word 0x30 and raises BADOP for other bits; for an illegal version it ends with BADCFG;
else every cell is unset, the whole MAT window reads 0, SIDE = 4V+17, MSTAGE = 1, SELV = 0, PENVALID =
0, and every other register and buffer byte is unchanged. (R93) -/
def Obligations.MinitResult : Prop :=
  encode .minit = 0x00000030 ∧ RaisesBadOp 0x30 0xFFFFFF00 ∧ ∀ s : State,
    (¬ s.VersionLegal → exec .minit s = .next (s.errorComplete 0x30 .badCfg)) ∧
    (s.VersionLegal → ∃ t, exec .minit s = .next t ∧
      t = { s with
            mat := t.mat, side := t.side, penvalid := 0
            status := { s.status with mstage := 1, selv := false } }.complete 0x30 ∧
      t.side.toNat = 4 * s.cfg.version.toNat + 17 ∧ Mat.Wf t.mat ∧
      (∀ r c, Mat.cell t.mat r c = ⟨false, false, false⟩) ∧ ∀ i, t.matByte i = 0)

/-- MFUNC has the word 0x31 and raises BADOP for other bits; it ends with BADCFG for an illegal version and
with SEQ unless MSTAGE = 1; else each cell of the finder, separator, timing and alignment regions and
the dark module has the colour of its region, each format cell and for V >= 7 each version cell is
reserved, every other cell, register and buffer byte is unchanged, and MSTAGE = 2. (R103) -/
def Obligations.MfuncResult : Prop :=
  encode .mfunc = 0x00000031 ∧ RaisesBadOp 0x31 0xFFFFFF00 ∧ ∀ s : State,
    (¬ s.VersionLegal → exec .mfunc s = .next (s.errorComplete 0x31 .badCfg)) ∧
    (s.VersionLegal → s.status.mstage ≠ 1 → exec .mfunc s = .next (s.errorComplete 0x31 .seq)) ∧
    (s.VersionLegal → s.status.mstage = 1 → Mat.Wf s.mat → ∃ t, exec .mfunc s = .next t ∧
      t = { s with mat := t.mat, status := { s.status with mstage := 2 } }.complete 0x31 ∧
      (∀ w ∈ finderCells s.opSide ++ separatorCells s.opSide ++ timingCells s.opSide ++
          alignmentCells s.opV ++ darkModule s.opSide, Mat.cell t.mat w.1.1 w.1.2 = w.2) ∧
      (∀ p ∈ reservedCells s.opV, Mat.cell t.mat p.1 p.2 = ⟨false, false, true⟩) ∧
      ∀ r c, (∀ x, ((r, c), x) ∉ functionWrites s.opV) → Mat.cell t.mat r c = Mat.cell s.mat r c)

/-- For every version and level the number of cells inside S x S that MFUNC leaves with FUNC = 0 in a
cleared matrix is 8*NTOTAL + REMBITS of the row of that version and level. (42_matrix_placement.md R102) -/
def Obligations.DataCellCount : Prop :=
  ∀ v l : Nat, 1 ≤ v → v ≤ 40 → l < 4 →
    (((Mat.setAll clearedMat (functionWrites v)).take (sideOf v)).map fun row =>
      (row.take (sideOf v)).countP fun x => !x.func).sum = 8 * (blockRow v l).ntotal + (blockRow v l).remBits

/-- For every version Z(S) has S*(S-1) cells, no cell twice, and a cell is in it exactly when it is inside S
x S and not in column 6; it begins (S-1, S-1), (S-1, S-2), (S-2, S-1), (S-2, S-2).
(42_matrix_placement.md R104) -/
def Obligations.ZigzagVisitsEachCellOnce : Prop :=
  ∀ v : Nat, 1 ≤ v → v ≤ 40 →
    (zigzag (sideOf v)).Nodup ∧ (zigzag (sideOf v)).length = sideOf v * (sideOf v - 1) ∧
    (∀ r c, (r, c) ∈ zigzag (sideOf v) ↔ r < sideOf v ∧ c < sideOf v ∧ c ≠ 6) ∧
    (zigzag (sideOf v)).take 4 =
      [(sideOf v - 1, sideOf v - 1), (sideOf v - 1, sideOf v - 2), (sideOf v - 2, sideOf v - 1),
        (sideOf v - 2, sideOf v - 2)]

/-- MDATA has the word 0x32 and raises BADOP for other bits; it ends with BADCFG or SEQ when it must; else
the i-th non-function cell in the order Z(S) holds bit 7-(i mod 8) of CW_BUF[i/8] for i < 8*NTOTAL and
is light after that, every other cell, register and buffer byte is unchanged, and MSTAGE = 3. (R106) -/
def Obligations.MdataResult : Prop :=
  encode .mdata = 0x00000032 ∧ RaisesBadOp 0x32 0xFFFFFF00 ∧ ∀ s : State,
    (¬ s.VersionLegal → exec .mdata s = .next (s.errorComplete 0x32 .badCfg)) ∧
    (s.VersionLegal → (s.status.mstage ≠ 2 ∨ s.status.cwv = false) →
      exec .mdata s = .next (s.errorComplete 0x32 .seq)) ∧
    (s.VersionLegal → s.status.mstage = 2 → s.status.cwv = true → Mat.Wf s.mat →
      ∃ t, exec .mdata s = .next t ∧
        t = { s with mat := t.mat, status := { s.status with mstage := 3 } }.complete 0x32 ∧
        (∀ (i : Nat) (p : Nat × Nat), (dataCells s.mat s.opSide)[i]? = some p →
          Mat.cell t.mat p.1 p.2 =
            ⟨true, if i < 8 * s.opRow.ntotal then (s.byteAt (cwBase + i / 8)).getLsbD (7 - i % 8) else false,
              false⟩) ∧
        ∀ r c, (r, c) ∉ dataCells s.mat s.opSide → Mat.cell t.mat r c = Mat.cell s.mat r c)

/-- The value computed for each level and mask is the table entry, and the value computed for each version
from 7 on is the table entry. (10_state.md R43, 10_state.md R44, 43_mask_evaluation.md R109,
43_mask_evaluation.md R110) -/
def Obligations.InfoTablesAgree : Prop :=
  (∀ (l : BitVec 2) (m : BitVec 3), (fmtTable.getD l.toNat []).getD m.toNat 0 = fmtbits l m) ∧
    ∀ v : Nat, 7 ≤ v → v ≤ 40 → verTable[v - 7]? = some (verbits v)

/-- MSCORE has the word 0x40 with M in 10:8 and raises BADOP for bits 31:11; it ends with BADCFG or SEQ when
it must; else PENm, bit m of PENVALID, PD1 to PD4 and PDM hold the scores of the candidate of mask m,
and everything else, MAT, SEL and SELV included, is unchanged. (R122) -/
def Obligations.MscoreResult : Prop :=
  RaisesBadOp 0x40 0xFFFFF800 ∧ ∀ (m : BitVec 3) (s : State),
    encode (.mscore m) = BitVec.ofNat 32 (0x40 + 256 * m.toNat) ∧
    (¬ s.VersionLegal → exec (.mscore m) s = .next (s.errorComplete 0x40 .badCfg)) ∧
    (s.VersionLegal → s.status.mstage ≠ 3 → exec (.mscore m) s = .next (s.errorComplete 0x40 .seq)) ∧
    (s.VersionLegal → s.status.mstage = 3 →
      ∀ p, p = maskPenalty s.mat s.opV s.cfg.level m → exec (.mscore m) s = .next ({ s with
        pen := s.pen.set m.toFin (BitVec.ofNat 32 (p.p1 + p.p2 + p.p3 + p.p4))
        penvalid := s.penvalid ||| (1#8 <<< m.toNat)
        pd1 := BitVec.ofNat 32 p.p1
        pd2 := BitVec.ofNat 32 p.p2
        pd3 := BitVec.ofNat 32 p.p3
        pd4 := BitVec.ofNat 32 p.p4
        maskSel := { s.maskSel with pdm := m } }.complete 0x40))

/-- MEVAL has the word 0x41 and raises BADOP for other bits; it ends with BADCFG or SEQ when it must; else
PEN0 to PEN7 hold the totals, SEL is the smallest mask with the least total, PENVALID = 0xFF, SELV = 1,
PD1 to PD4 and PDM are those of SEL, and everything else, MAT included, is unchanged. (R121, R123) -/
def Obligations.MevalResult : Prop :=
  encode .meval = 0x00000041 ∧ RaisesBadOp 0x41 0xFFFFFF00 ∧ ∀ s : State,
    (¬ s.VersionLegal → exec .meval s = .next (s.errorComplete 0x41 .badCfg)) ∧
    (s.VersionLegal → s.status.mstage ≠ 3 → exec .meval s = .next (s.errorComplete 0x41 .seq)) ∧
    (s.VersionLegal → s.status.mstage = 3 → ∃ t, exec .meval s = .next t ∧
      t = { s with
            pen := t.pen, penvalid := 0xFF
            pd1 := BitVec.ofNat 32 (s.penaltyOf t.maskSel.sel).p1
            pd2 := BitVec.ofNat 32 (s.penaltyOf t.maskSel.sel).p2
            pd3 := BitVec.ofNat 32 (s.penaltyOf t.maskSel.sel).p3
            pd4 := BitVec.ofNat 32 (s.penaltyOf t.maskSel.sel).p4
            maskSel := { s.maskSel with sel := t.maskSel.sel, pdm := t.maskSel.sel }
            status := { s.status with selv := true } }.complete 0x41 ∧
      ∀ m : BitVec 3,
        t.pen[m.toFin] = BitVec.ofNat 32 (s.penaltyOf m).total ∧
        (s.penaltyOf t.maskSel.sel).total ≤ (s.penaltyOf m).total ∧
        (m.toNat < t.maskSel.sel.toNat → (s.penaltyOf t.maskSel.sel).total < (s.penaltyOf m).total))

/-- For every version, level, mask and matrix of 177 rows of 177 cells, with g the DARK bits of the
candidate: each line splits into maximal runs (adjacent ones of different colour) and P1 is the sum of
3+(n-5) over those of length n >= 5; P2 is 3 times the number of (i, j) of the 2 x 2 rule; P3 is 40
times the number of (line, x) where the finder-like pattern stands with light cells before or after; P4
is 10 times |2D-T|*10/T rounded down; the total is their sum; and P1 <= 2S(S-2), P2 <= 3(S-1)^2, P3 <=
80S(S-6), P4 <= 100, and the total is at most 2576338 and is what its 32-bit register holds. (R115,
R116, R117, R118, R120) -/
def Obligations.PenaltyBounds : Prop :=
  ∀ (mat : Mat) (v : Nat) (l : BitVec 2) (m : BitVec 3), Mat.Wf mat → 1 ≤ v → v ≤ 40 →
    ∀ g : Nat → Nat → Bool, (∀ i j, g i j = (Mat.cell (candidate mat v l m) i j).dark) →
    ∀ p, p = maskPenalty mat v l m →
      (∃ runs : Nat → List (Bool × Nat),
        (∀ k < 2 * sideOf v, IsRuns (runs k) (lineOf g (sideOf v) k)) ∧
        p.p1 = ∑ k ∈ Finset.range (2 * sideOf v),
          ((runs k).map fun q => if 5 ≤ q.2 then 3 + (q.2 - 5) else 0).sum) ∧
      p.p2 = 3 * ((Finset.range (sideOf v - 1) ×ˢ Finset.range (sideOf v - 1)).filter fun q : Nat × Nat =>
        g q.1 q.2 = g q.1 (q.2 + 1) ∧ g q.1 q.2 = g (q.1 + 1) q.2 ∧ g q.1 q.2 = g (q.1 + 1) (q.2 + 1)).card ∧
      p.p3 = 40 * ((Finset.range (2 * sideOf v) ×ˢ Finset.range (sideOf v - 6)).filter fun q : Nat × Nat =>
        FinderLikeAt (lineOf g (sideOf v) q.1) q.2).card ∧
      p.p4 = 10 * ((2 * (((Finset.range (sideOf v) ×ˢ Finset.range (sideOf v)).filter fun q : Nat × Nat =>
        g q.1 q.2 = true).card : Int) - sideOf v ^ 2).natAbs * 10 / sideOf v ^ 2) ∧
      p.total = p.p1 + p.p2 + p.p3 + p.p4 ∧
      p.p1 ≤ 2 * sideOf v * (sideOf v - 2) ∧ p.p1 ≤ 61950 ∧
      p.p2 ≤ 3 * (sideOf v - 1) ^ 2 ∧ p.p2 ≤ 92928 ∧
      p.p3 ≤ 40 * (2 * sideOf v * (sideOf v - 6)) ∧ p.p3 ≤ 2421360 ∧ p.p4 ≤ 100 ∧
      p.total ≤ 2576338 ∧ (BitVec.ofNat 32 p.total).toNat = p.total

/-- MAPPLY has the word 0x42 with M in 10:8 and raises BADOP for bits 31:11; it ends with BADCFG or SEQ when
it must; else both copies of the format cells hold fmtbits(L, m), for V >= 7 both copies of the version
cells hold verbits(V), every other cell inside S x S with FUNC = 0 is inverted where mask m says so,
every other cell is unchanged, APPLIED, FMTBITS, VERBITS and MSTAGE are set, and every other register
and buffer byte is unchanged; if the matrix was as its stage says, every cell inside S x S then has SET
= 1; and no command but MINIT (and ENCODE, which starts with it) changes the matrix after that. (R124) -/
def Obligations.MapplyResult : Prop :=
  RaisesBadOp 0x42 0xFFFFF800 ∧ ∀ (m : BitVec 3) (s : State),
    encode (.mapply m) = BitVec.ofNat 32 (0x42 + 256 * m.toNat) ∧
    (¬ s.VersionLegal → exec (.mapply m) s = .next (s.errorComplete 0x42 .badCfg)) ∧
    (s.VersionLegal → s.status.mstage ≠ 3 → exec (.mapply m) s = .next (s.errorComplete 0x42 .seq)) ∧
    (s.VersionLegal → s.status.mstage = 3 → Mat.Wf s.mat → ∃ t, exec (.mapply m) s = .next t ∧
      t = { s with
            mat := t.mat
            maskSel := { s.maskSel with applied := m }
            fmtBits := fmtbits s.cfg.level m
            verBits := if s.opV ≥ 7 then verbits s.opV else 0
            status := { s.status with mstage := 4 } }.complete 0x42 ∧
      (∀ (k : Nat) (p : Nat × Nat), fc1[k]? = some p ∨ (fc2 s.opSide)[k]? = some p →
        Mat.cell t.mat p.1 p.2 = ⟨true, (fmtbits s.cfg.level m).getLsbD k, true⟩) ∧
      (s.opV ≥ 7 → ∀ (k : Nat) (p : Nat × Nat),
        (vc1 s.opSide)[k]? = some p ∨ (vc2 s.opSide)[k]? = some p →
          Mat.cell t.mat p.1 p.2 = ⟨true, (verbits s.opV).getLsbD k, true⟩) ∧
      (∀ r c, (r, c) ∉ reservedCells s.opV → Mat.cell t.mat r c =
        if r < s.opSide ∧ c < s.opSide ∧ (Mat.cell s.mat r c).func = false ∧ maskBit m r c = true
        then { Mat.cell s.mat r c with dark := !(Mat.cell s.mat r c).dark } else Mat.cell s.mat r c) ∧
      (s.MatrixAsStage → ∀ r c, r < s.opSide → c < s.opSide → (Mat.cell t.mat r c).set = true) ∧
      ∀ i u, i ≠ .minit → i ≠ .encode → exec i t = .next u → u.mat = t.mat)

/-- MAPSEL has the word 0x43 and raises BADOP for other bits; it ends with BADCFG for an illegal version and
with SEQ unless MSTAGE = 3 and SELV = 1; else it answers the next state of MAPPLY with M = SEL, but for
LASTOP. (R125) -/
def Obligations.MapselAppliesSelected : Prop :=
  encode .mapsel = 0x00000043 ∧ RaisesBadOp 0x43 0xFFFFFF00 ∧ ∀ s : State,
    (¬ s.VersionLegal → exec .mapsel s = .next (s.errorComplete 0x43 .badCfg)) ∧
    (s.VersionLegal → (s.status.mstage ≠ 3 ∨ s.status.selv = false) →
      exec .mapsel s = .next (s.errorComplete 0x43 .seq)) ∧
    (s.VersionLegal → s.status.mstage = 3 → s.status.selv = true →
      ∃ t, exec (.mapply s.maskSel.sel) s = .next t ∧
        exec .mapsel s = .next { t with status := { t.status with lastop := 0x43 } })

/-- From every state with a legal version and DLEN = NDATA, the commands ECCODE, MINIT, MFUNC, MDATA, MEVAL
and MAPSEL run one after another to next states, and ENCODE gives the last of these states with LASTOP
0x50. (44_sequencing.md R131) -/
def Obligations.EncodeEqualsStepwise : Prop :=
  ∀ s : State, s.VersionLegal → s.LenRight →
    ∃ s1 s2 s3 s4 s5 s6 : State,
      exec .eccode s = .next s1 ∧ exec .minit s1 = .next s2 ∧ exec .mfunc s2 = .next s3 ∧
      exec .mdata s3 = .next s4 ∧ exec .meval s4 = .next s5 ∧ exec .mapsel s5 = .next s6 ∧
      s6.status.err = false ∧
      exec .encode s = .next { s6 with status := { s6.status with lastop := 0x50 } }

/-- From every state with a legal version and DLEN = NDATA, ENCODE answers a next state with CWV = 1, MSTAGE
= 4, SELV = 1, PENVALID = 0xFF and APPLIED = SEL, in which every cell inside S x S has SET = 1, the
coloured function cells have their colours, the format and version cells hold the information, the i-th
data cell holds bit i of the codewords (0 for remainder bits) inverted where the mask says so, and every
cell outside is unset; otherwise it ends with BADCFG or LEN. (44_sequencing.md R131, 44_sequencing.md
R132) -/
def Obligations.EncodeFinishesTheSymbol : Prop :=
  ∀ s : State,
    (¬ s.VersionLegal → exec .encode s = .next (s.errorComplete 0x50 .badCfg)) ∧
    (s.VersionLegal → ¬ s.LenRight → exec .encode s = .next (s.errorComplete 0x50 .len)) ∧
    (Memory.Wf s.mem → s.VersionLegal → s.LenRight → ∃ t, exec .encode s = .next t ∧
      t.status.cwv = true ∧ t.status.mstage = 4 ∧ t.status.selv = true ∧ t.penvalid = 0xFF ∧
      t.maskSel.applied = t.maskSel.sel ∧ t.status.err = false ∧ t.status.lastop = 0x50 ∧
      (∀ r c, r < s.opSide → c < s.opSide → (Mat.cell t.mat r c).set = true) ∧
      (∀ w ∈ functionWrites s.opV, w.2.set = true → Mat.cell t.mat w.1.1 w.1.2 = w.2) ∧
      (∀ (k : Nat) (p : Nat × Nat), fc1[k]? = some p ∨ (fc2 s.opSide)[k]? = some p →
        Mat.cell t.mat p.1 p.2 = ⟨true, (fmtbits s.cfg.level t.maskSel.applied).getLsbD k, true⟩) ∧
      (s.opV ≥ 7 → ∀ (k : Nat) (p : Nat × Nat),
        (vc1 s.opSide)[k]? = some p ∨ (vc2 s.opSide)[k]? = some p →
          Mat.cell t.mat p.1 p.2 = ⟨true, (verbits s.opV).getLsbD k, true⟩) ∧
      (∀ (i : Nat) (p : Nat × Nat), (dataOrder s.opV)[i]? = some p →
        Mat.cell t.mat p.1 p.2 =
          ⟨true, ((s.codewords.flatMap msbFirst)[i]?.getD false) ^^ maskBit t.maskSel.applied p.1 p.2, false⟩) ∧
      ∀ r c, (s.opSide ≤ r ∨ s.opSide ≤ c) → Mat.cell t.mat r c = ⟨false, false, false⟩)

/-- Two states with the same CFG, the same DLEN and the same first NDATA bytes of DATA_BUF, whatever else
they hold, get from ENCODE the same matrix, the same codewords, penalties, masks and information
registers. (44_sequencing.md R131) -/
def Obligations.EncodeIsPure : Prop :=
  ∀ s s' : State, Memory.Wf s.mem → Memory.Wf s'.mem → s.VersionLegal → s.LenRight →
    s'.cfg = s.cfg → s'.dlen = s.dlen →
    s'.memRead dataBase 0 s.opRow.ndata = s.memRead dataBase 0 s.opRow.ndata →
    ∃ t t', exec .encode s = .next t ∧ exec .encode s' = .next t' ∧
      t'.mat = t.mat ∧ t'.memRead cwBase 0 4096 = t.memRead cwBase 0 4096 ∧ t'.pen = t.pen ∧
      t'.pd1 = t.pd1 ∧ t'.pd2 = t.pd2 ∧ t'.pd3 = t.pd3 ∧ t'.pd4 = t.pd4 ∧ t'.maskSel = t.maskSel ∧
      t'.penvalid = t.penvalid ∧ t'.fmtBits = t.fmtBits ∧ t'.verBits = t.verBits ∧ t'.side = t.side ∧
      t'.ntotal = t.ntotal ∧ t'.ndata = t.ndata ∧ t'.blocks = t.blocks ∧ t'.remBits = t.remBits

/-- An access whose address is not a multiple of 4 fails with MISALIGNED and an aligned access to an
unmapped address fails with UNMAPPED, reads and writes alike, busy or not; a failed access gives back ok
0, a failed read data 0, sets BERR, and sets BCODE only if BERR was 0; the codes are UNMAPPED 1,
MISALIGNED 2, READONLY 3, BUSYWRITE 4. (R48, R49, R138) -/
def Obligations.FailedAccesses : Prop :=
  (∀ (s : State) (e : BusError), s.busError e =
      { s with status := { s.status with
          bcode := if s.status.berr = true then s.status.bcode else e.code
          berr := true } }) ∧
    (BusError.unmapped.code = 1 ∧ BusError.misaligned.code = 2 ∧ BusError.readOnly.code = 3 ∧
      BusError.busyWrite.code = 4) ∧
    ∀ (s : State) (a : Addr) (d : Word),
      (a.toNat % 4 ≠ 0 →
        (∃ x, s.hostWrite a d = (s.busError .misaligned).respond x false) ∧
        s.hostRead a = (s.busError .misaligned).respond 0 false) ∧
      (UnmappedAddr a →
        (∃ x, s.hostWrite a d = (s.busError .unmapped).respond x false) ∧
        s.hostRead a = (s.busError .unmapped).respond 0 false)

/-- An aligned write to a read-only location fails with READONLY; while BUSY = 1 an aligned write to CMD,
CFG, DLEN, GF_A, GF_B or a DATA_BUF word fails with BUSYWRITE; either changes only BERR and BCODE.
Writes to STATUS and CTRL never fail. (R50, R51) -/
def Obligations.RefusedWrites : Prop :=
  ∀ (s : State) (a : Addr) (d : Word),
    (ReadOnlyAddr a → ∃ x, s.hostWrite a d = (s.busError .readOnly).respond x false) ∧
    (LockedAddr a → s.busy = true → ∃ x, s.hostWrite a d = (s.busError .busyWrite).respond x false) ∧
    (a = 0x00C ∨ a = 0x010 → ∃ x, (s.hostWrite a d).resp = some ⟨x, true⟩)

/-- While BUSY = 0 a write of any value to CFG stores bits 5:0 and 9:8, clears CWV, MSTAGE, SELV and
PENVALID, and changes nothing else. (R33) -/
def Obligations.CfgWriteInvalidates : Prop :=
  ∀ (s : State) (d : Word), s.busy = false → ∃ x, s.hostWrite 0x014 d =
    { s with
      cfg := ⟨d.extractLsb' 0 6, d.extractLsb' 8 2⟩
      penvalid := 0
      status := { s.status with cwv := false, mstage := 0, selv := false }
      resp := some ⟨x, true⟩ }

/-- While BUSY = 0 a write to DLEN stores bits 11:0 and clears CWV, writes to GF_A and GF_B store bits 7:0;
at any time a write to CTRL with bit 1 = 0 stores IE; nothing else changes. (10_state.md R22,
10_state.md R24, 10_state.md R25) -/
def Obligations.OperandWrites : Prop :=
  ∀ (s : State) (d : Word), ∃ x,
    (s.busy = false →
      s.hostWrite 0x018 d = { s with
        dlen := d.extractLsb' 0 12, status := { s.status with cwv := false }, resp := some ⟨x, true⟩ } ∧
      s.hostWrite 0x01C d = { s with gfA := d.extractLsb' 0 8, resp := some ⟨x, true⟩ } ∧
      s.hostWrite 0x020 d = { s with gfB := d.extractLsb' 0 8, resp := some ⟨x, true⟩ }) ∧
    (d.getLsbD 1 = false → s.hostWrite 0x010 d = { s with ie := d.getLsbD 0, resp := some ⟨x, true⟩ })

/-- While BUSY = 0 a write of a DATA_BUF word stores byte k of the word, bits 8k+7 to 8k, at the address
plus k, clears CWV, leaves every other byte, cell and register unchanged, and a read of the address then
gives the word back. (20_memory.md R53, 10_state.md R31) -/
def Obligations.DataBufWriteReadBack : Prop :=
  ∀ (s : State) (a : Addr) (d : Word), Memory.Wf s.mem → s.busy = false → a.toNat % 4 = 0 →
    0x1000 ≤ a.toNat → a.toNat < 0x2000 →
    ∃ t, s.hostWrite a d = t ∧
      (∃ x, t = { s with mem := t.mem, status := { s.status with cwv := false }, resp := some ⟨x, true⟩ }) ∧
      (∀ k < 4, t.memByte (a.toNat + k) = d.extractLsb' (8 * k) 8) ∧
      (∀ x, (x < a.toNat ∨ a.toNat + 4 ≤ x) → t.memByte x = s.memByte x) ∧
      (t.hostRead a).resp = some ⟨d, true⟩

/-- While BUSY = 0 a write of any word to CMD puts it into PENDCMD, sets BUSY, and clears DONE, ERR and
ECODE, LASTOP and everything else unchanged; while BUSY = 1 it fails with BUSYWRITE. (R126) -/
def Obligations.IssueCommand : Prop :=
  ∀ (s : State) (w : Word),
    (s.busy = false → (∃ x, s.hostWrite 0x008 w = { s with
      pendcmd := some w
      status := { s.status with done := false, err := false, ecode := 0 }
      resp := some ⟨x, true⟩ }) ∧ (s.hostWrite 0x008 w).busy = true) ∧
    (s.busy = true → ∃ x, s.hostWrite 0x008 w = (s.busError .busyWrite).respond x false)

/-- Each field of STATUS stands at its bits and the reserved bits read 0; a write of d to STATUS, busy or
not, clears DONE if d[1], ERR and ECODE if d[2], BERR and BCODE if d[3], and changes nothing else. (R21) -/
def Obligations.StatusFieldsAndWriteOneToClear : Prop :=
  ∀ (s : State) (d : Word),
    s.statusWord.getLsbD 0 = s.busy ∧ s.statusWord.getLsbD 1 = s.status.done ∧
    s.statusWord.getLsbD 2 = s.status.err ∧ s.statusWord.getLsbD 3 = s.status.berr ∧
    s.statusWord.getLsbD 4 = s.status.cwv ∧ s.statusWord.extractLsb' 5 3 = s.status.mstage ∧
    s.statusWord.getLsbD 8 = s.status.selv ∧ s.statusWord.extractLsb' 9 3 = 0 ∧
    s.statusWord.extractLsb' 12 4 = s.status.ecode ∧ s.statusWord.extractLsb' 16 4 = s.status.bcode ∧
    s.statusWord.extractLsb' 20 4 = 0 ∧ s.statusWord.extractLsb' 24 8 = s.status.lastop ∧
    ∃ x, s.hostWrite 0x00C d = { s with
      status := { s.status with
        done := if d.getLsbD 1 then false else s.status.done
        err := if d.getLsbD 2 then false else s.status.err
        ecode := if d.getLsbD 2 then 0 else s.status.ecode
        berr := if d.getLsbD 3 then false else s.status.berr
        bcode := if d.getLsbD 3 then 0 else s.status.bcode }
      resp := some ⟨x, true⟩ }

/-- IRQ = IE and (DONE or ERR or BERR); after every command IRQ equals IE; writing 0x0E to STATUS lowers it;
issuing a command lowers it if no bus error is pending. (R139) -/
def Obligations.InterruptLine : Prop :=
  ∀ s : State,
    (s.irq = true ↔ s.ie = true ∧ (s.status.done = true ∨ s.status.err = true ∨ s.status.berr = true)) ∧
    (∀ i t, exec i s = .next t → t.irq = s.ie) ∧
    (s.hostWrite 0x00C 0x0000000E).irq = false ∧
    (s.busy = false → s.status.berr = false → ∀ w, (s.hostWrite 0x008 w).irq = false)

/-- At any time a write to CTRL with bit 1 = 1 empties PENDCMD, gives every register, IE included, the value
it has after hardware reset, and leaves every byte of the buffers and of the MAT window as it was.
(R149) -/
def Obligations.SoftResetKeepsBuffers : Prop :=
  ∀ (s : State) (d : Word), d.getLsbD 1 = true →
    (s.hostWrite 0x010 d).pendcmd = none ∧
    (∀ r : Reg, (s.hostWrite 0x010 d).readReg r = State.reset.readReg r) ∧
    (s.hostWrite 0x010 d).mem = s.mem ∧ (s.hostWrite 0x010 d).mat = s.mat ∧
    (∀ a, (s.hostWrite 0x010 d).memByte a = s.memByte a) ∧
    (s.hostWrite 0x010 d).ie = false ∧ ∃ x, (s.hostWrite 0x010 d).resp = some ⟨x, true⟩

/-- In State.reset, and after a hardware reset from any state, ID reads 0x51525345, REV reads 1, every other
register reads 0, PENDCMD is empty, BUSY = 0 and IRQ is low. (R147) -/
def Obligations.HardwareResetValues : Prop :=
  ∀ t : State, (t = State.reset ∨ ∃ s : State, t = s.hardReset) →
    t.readReg .id = 0x51525345 ∧ t.readReg .rev = 0x00000001 ∧
    (∀ r : Reg, r ≠ .id → r ≠ .rev → t.readReg r = 0) ∧ t.pendcmd = none ∧ t.busy = false ∧
    t.ie = false ∧ t.irq = false ∧ t.cfg = ⟨0, 0⟩

/-- A read of a mapped aligned address changes only the model's own response and draw count (log entries 5
and 6); while BUSY = 0 it returns the current contents; while a command is pending it does so for every
location outside the write set of its OP but STATUS, and STATUS is exact but for CWV, MSTAGE, SELV and
LASTOP. The contents of an aligned word of a buffer or of the MAT window are its four bytes in little-
endian order; the byte at 0x8000 + 177r + c has DARK, SET and FUNC of cell (r, c) in bits 0, 1 and 2 and
0 above; the bytes from 0x8000 + 31329 on are 0. (20_memory.md R57, 20_memory.md R58, 20_memory.md R66,
20_memory.md R53, 20_memory.md R59, 10_state.md R36) -/
def Obligations.ReadsChangeNothingAndAreExact : Prop :=
  ∀ s : State,
    (∀ a : Addr, a.toNat % 4 = 0 → ¬ UnmappedAddr a →
      ∃ v : Word,
        s.hostRead a = { s with resp := some ⟨v, true⟩, draws := (s.hostRead a).draws } ∧
        (s.busy = false → v = s.readLoc (locOf a) ∧ (s.hostRead a).draws = s.draws) ∧
        (∀ w, s.pendcmd = some w → locOf a ≠ .reg .status → inWriteSet (opField w) (locOf a) = false →
          v = s.readLoc (locOf a)) ∧
        (locOf a = .reg .status → v &&& 0x00FFFE0F = s.statusWord &&& 0x00FFFE0F)) ∧
    (∀ a : Addr, a.toNat % 4 = 0 →
      ((0x1000 ≤ a.toNat ∧ a.toNat < 0x2200) ∨ (0x3000 ≤ a.toNat ∧ a.toNat < 0x4000) ∨ 0x8000 ≤ a.toNat) →
      ∀ k < 4, (s.readLoc (locOf a)).extractLsb' (8 * k) 8 = s.memByte (a.toNat + k)) ∧
    (∀ r c, r < 177 → c < 177 →
      (s.memByte (0x8000 + r * 177 + c)).getLsbD 0 = (Mat.cell s.mat r c).dark ∧
      (s.memByte (0x8000 + r * 177 + c)).getLsbD 1 = (Mat.cell s.mat r c).set ∧
      (s.memByte (0x8000 + r * 177 + c)).getLsbD 2 = (Mat.cell s.mat r c).func ∧
      (s.memByte (0x8000 + r * 177 + c)).extractLsb' 3 5 = 0) ∧
    ∀ x, 0x8000 + 31329 ≤ x → s.memByte x = 0

/-- For every command and state in canonical form, every mapped aligned location that is not STATUS and not
in the write set of the command's OP reads after the command as it read before. (20_memory.md R58,
20_memory.md R60) -/
def Obligations.CommandsChangeOnlyTheirWriteSet : Prop :=
  ∀ (i : Instr) (s t : State) (a : Addr), Memory.Wf s.mem → exec i s = .next t → a.toNat % 4 = 0 →
    locOf a ≠ .reg .status → inWriteSet i.op (locOf a) = false →
    t.readLoc (locOf a) = s.readLoc (locOf a)

/-- Once the mask is applied, every command other than MINIT and ENCODE, which starts with it, leaves every
cell as it is. (43_mask_evaluation.md R124) -/
def Obligations.FinalMatrixImmutable : Prop :=
  ∀ (i : Instr) (s t : State), s.status.mstage = 4 → i ≠ .minit → i ≠ .encode → exec i s = .next t →
    t.mat = s.mat

/-- From every state whose written bytes rise in address within the buffers and whose matrix has 177 rows of
177 cells, every step leads to such a state. (10_state.md R34, 20_memory.md R59, 20_memory.md R60) -/
def Obligations.StepKeepsCanonicalForm : Prop :=
  ∀ s t : State, s.Wf → step s = .next t → t.Wf

/-- From every state with MSTAGE <= 4, ECODE <= 5, BCODE <= 4, ERR = 1 exactly when ECODE is not 0, BERR = 1
exactly when BCODE is not 0, and DONE = ERR = ECODE = 0 while BUSY = 1, every step leads to such a
state. (10_state.md R21, 20_memory.md R52, 20_memory.md R58, 60_exceptions.md R133) -/
def Obligations.StepKeepsCodesAndFlags : Prop :=
  ∀ s t : State, s.LegalCodes → s.FlagsAgree → step s = .next t → t.LegalCodes ∧ t.FlagsAgree

/-- From every state in which MSTAGE not 0 means a legal version and SIDE = 4V+17, a set PENVALID bit means
MSTAGE >= 3, and SELV = 1 means PENVALID = 0xFF, every step leads to such a state. (10_state.md R27,
10_state.md R29, 10_state.md R32, 10_state.md R33) -/
def Obligations.StepKeepsStages : Prop :=
  ∀ s t : State, s.StagesAgree → step s = .next t → t.StagesAgree

/-- From every state in canonical form in which CWV = 1 means that CW_BUF[0..NTOTAL) is the final codeword
sequence of DATA_BUF[0..NDATA) for CFG and the EC-structure registers are the row's, every step leads to
such a state. (10_state.md R31, 10_state.md R26) -/
def Obligations.StepKeepsCwvTrue : Prop :=
  ∀ s t : State, s.Wf → s.CwvTrue → step s = .next t → t.CwvTrue

/-- From every state in canonical form whose matrix is as its stage says (all unset at 1; the function cells
those of the geometry from 2 on, coloured but for the reserved ones; at 2 every other cell unset; every
cell but the reserved ones set at 3; every cell set at 4; every cell outside S x S unset), every step
leads to such a state. (10_state.md R32, 10_state.md R35, 42_matrix_placement.md R105,
43_mask_evaluation.md R124) -/
def Obligations.StepKeepsMatrixAsStage : Prop :=
  ∀ s t : State, s.Wf → s.OutsideUnset → s.MatrixAsStage → step s = .next t →
    t.OutsideUnset ∧ t.MatrixAsStage

/-- State.reset is in canonical form, has legal codes and agreeing flags and stages, and meets the
predicates on CWV and on the matrix. (10_state.md R46, 70_reset_and_hazards.md R147) -/
def Obligations.ResetMeetsInvariants : Prop :=
  State.reset.Wf ∧ State.reset.LegalCodes ∧ State.reset.FlagsAgree ∧ State.reset.StagesAgree ∧
    State.reset.CwvTrue ∧ State.reset.OutsideUnset ∧ State.reset.MatrixAsStage

/-- While BUSY = 0 a host read of each register offset succeeds: 0x000 gives 0x51525345, 0x004 gives 1,
0x008 gives 0, 0x00C the STATUS word, 0x010 IE in bit 0, 0x014 VERSION in 5:0 and LEVEL in 9:8, 0x018
DLEN, 0x01C to 0x024 GF_A, GF_B, GF_RES, 0x028 to 0x034 NTOTAL, NDATA, BLOCKS, REMBITS, 0x038 SIDE,
0x03C SEL in 2:0, APPLIED in 10:8 and PDM in 18:16, 0x040 PENVALID, 0x044 FMTBITS, 0x048 VERBITS,
0x050+4m PENm, 0x070 to 0x07C PD1 to PD4; every other bit reads 0. (10_state.md R18, 10_state.md R19,
10_state.md R20, 10_state.md R22, 10_state.md R23, 10_state.md R24, 10_state.md R25, 10_state.md R26,
10_state.md R27, 10_state.md R28, 10_state.md R29, 10_state.md R30) -/
def Obligations.RegisterReadMap : Prop :=
  ∀ s : State, s.busy = false →
    ∀ f : Addr → Option BusResp, (∀ a, f a = (s.hostRead a).resp) →
    f 0x000 = some ⟨0x51525345, true⟩ ∧ f 0x004 = some ⟨0x00000001, true⟩ ∧ f 0x008 = some ⟨0, true⟩ ∧
    f 0x00C = some ⟨s.statusWord, true⟩ ∧ f 0x010 = some ⟨if s.ie then 1 else 0, true⟩ ∧
    f 0x014 = some ⟨BitVec.ofNat 32 (s.cfg.version.toNat + 256 * s.cfg.level.toNat), true⟩ ∧
    f 0x018 = some ⟨BitVec.ofNat 32 s.dlen.toNat, true⟩ ∧
    f 0x01C = some ⟨BitVec.ofNat 32 s.gfA.toNat, true⟩ ∧
    f 0x020 = some ⟨BitVec.ofNat 32 s.gfB.toNat, true⟩ ∧
    f 0x024 = some ⟨BitVec.ofNat 32 s.gfRes.toNat, true⟩ ∧
    f 0x028 = some ⟨BitVec.ofNat 32 s.ntotal.toNat, true⟩ ∧
    f 0x02C = some ⟨BitVec.ofNat 32 s.ndata.toNat, true⟩ ∧
    f 0x030 = some ⟨s.blocks, true⟩ ∧
    f 0x034 = some ⟨BitVec.ofNat 32 s.remBits.toNat, true⟩ ∧
    f 0x038 = some ⟨BitVec.ofNat 32 s.side.toNat, true⟩ ∧
    f 0x03C = some ⟨BitVec.ofNat 32
      (s.maskSel.sel.toNat + 256 * s.maskSel.applied.toNat + 65536 * s.maskSel.pdm.toNat), true⟩ ∧
    f 0x040 = some ⟨BitVec.ofNat 32 s.penvalid.toNat, true⟩ ∧
    f 0x044 = some ⟨BitVec.ofNat 32 s.fmtBits.toNat, true⟩ ∧
    f 0x048 = some ⟨BitVec.ofNat 32 s.verBits.toNat, true⟩ ∧
    (∀ m : BitVec 3, f (BitVec.ofNat 16 (0x050 + 4 * m.toNat)) = some ⟨s.pen[m.toFin], true⟩) ∧
    f 0x070 = some ⟨s.pd1, true⟩ ∧ f 0x074 = some ⟨s.pd2, true⟩ ∧ f 0x078 = some ⟨s.pd3, true⟩ ∧
    f 0x07C = some ⟨s.pd4, true⟩
end

