-- ==== Sys2Proof/Laws/Checks.lean ====
section
/-! SUPPORT. What each check of a command says, as a proposition: the Bool of Machine/Operands.lean and
Machine/Flags.lean against the condition of the spec's rule. -/

namespace Sys2Proof.Machine

@[simp] theorem cfgIllegal_eq_false (s : State) : s.cfgIllegal = false ↔ s.VersionLegal := by
  simp [State.cfgIllegal, vMin, vMax]
  omega

@[simp] theorem cfgIllegal_eq_true (s : State) : s.cfgIllegal = true ↔ ¬ s.VersionLegal := by
  rw [← cfgIllegal_eq_false, Bool.not_eq_false]

@[simp] theorem lenWrong_eq_false (s : State) : s.lenWrong = false ↔ s.LenRight := by
  simp [State.lenWrong]

@[simp] theorem lenWrong_eq_true (s : State) : s.lenWrong = true ↔ ¬ s.LenRight := by
  simp [State.lenWrong]

@[simp] theorem rsGenArgBad_eq_false (n : Nat) : rsGenArgBad n = false ↔ 1 ≤ n ∧ n ≤ 254 := by
  simp [rsGenArgBad, rsNMax]
  omega

@[simp] theorem rsEncArgBad_eq_false (n k : Nat) :
    rsEncArgBad n k = false ↔ 1 ≤ n ∧ n ≤ 254 ∧ 1 ≤ k ∧ k + n ≤ 255 := by
  simp [rsEncArgBad, rsNMax, rsLenMax]
  omega

@[simp] theorem seqMfunc_eq_false (s : State) : s.seqMfunc = false ↔ s.status.mstage = 1 := by
  simp [State.seqMfunc]

@[simp] theorem seqMdata_eq_false (s : State) :
    s.seqMdata = false ↔ s.status.mstage = 2 ∧ s.status.cwv = true := by
  simp [State.seqMdata]

@[simp] theorem seqPlaced_eq_false (s : State) : s.seqPlaced = false ↔ s.status.mstage = 3 := by
  simp [State.seqPlaced]

@[simp] theorem seqMapsel_eq_false (s : State) :
    s.seqMapsel = false ↔ s.status.mstage = 3 ∧ s.status.selv = true := by
  simp [State.seqMapsel]

end Sys2Proof.Machine
end

