-- ==== Sys2Proof/Laws/Mat.lean ====
section
/-! SUPPORT. Laws of the matrix: what a cell is after cell writes and after a rewrite of the symbol, and
that both keep its shape. -/

namespace Sys2Proof.Machine

@[simp] theorem Mat.length_setCell (m : Mat) (r c : Nat) (x : MCell) :
    (Mat.setCell m r c x).length = m.length := by simp [Mat.setCell]

/-- A cell write keeps the shape. -/
theorem Mat.setCell_wf {m : Mat} (h : Mat.Wf m) (r c : Nat) (x : MCell) :
    Mat.Wf (Mat.setCell m r c x) := by
  refine ⟨by simpa using h.1, fun row hrow => ?_⟩
  rcases List.mem_or_eq_of_mem_set hrow with h' | rfl
  · exact h.2 _ h'
  · rw [List.length_set]
    by_cases hr : r < m.length
    · rw [List.getD_eq_getElem _ _ hr]; exact h.2 _ (List.getElem_mem hr)
    · rw [Mat.setCell, List.set_eq_of_length_le (by omega)] at hrow
      exfalso
      have h3 := h.2 _ hrow
      rw [List.length_set, List.getD_eq_default _ _ (by omega)] at h3
      simp [maxSide] at h3

/-- What a cell is after one cell write. -/
theorem Mat.cell_setCell {m : Mat} (h : Mat.Wf m) (r c : Nat) (x : MCell) (r' c' : Nat) :
    Mat.cell (Mat.setCell m r c x) r' c' =
      if r' = r ∧ c' = c ∧ r < maxSide ∧ c < maxSide then x else Mat.cell m r' c' := by
  obtain ⟨h1, h2⟩ := h
  simp only [Mat.cell, Mat.setCell, List.getD_eq_getElem?_getD, List.getElem?_set]
  by_cases hr : r = r'
  · subst hr
    by_cases hlt : r < m.length
    · have hl : m[r].length = maxSide := h2 _ (List.getElem_mem hlt)
      simp only [hlt, if_true, Option.getD_some, List.getElem?_set, List.getElem?_eq_getElem hlt]
      by_cases hc : c = c'
      · subst hc
        by_cases hc' : c < maxSide
        · simp [hl, hc', h1 ▸ hlt]
        · simp [hl, hc']
      · simp [hc, Ne.symm hc]
    · have : ¬ r < maxSide := by omega
      simp [hlt, this]
  · simp [hr, Ne.symm hr]

/-- Cell writes keep the shape. -/
theorem Mat.setAll_wf {m : Mat} (h : Mat.Wf m) (ws : List CellWrite) :
    Mat.Wf (Mat.setAll m ws) := by
  induction ws generalizing m with
  | nil => exact h
  | cons w ws ih => exact ih (Mat.setCell_wf h _ _ _)

/-- Cell writes leave a cell that none of them names. -/
theorem Mat.cell_setAll_of_not_mem {m : Mat} (h : Mat.Wf m) (ws : List CellWrite) (r c : Nat)
    (hw : ∀ w ∈ ws, w.1 ≠ (r, c)) : Mat.cell (Mat.setAll m ws) r c = Mat.cell m r c := by
  induction ws generalizing m with
  | nil => rfl
  | cons w ws ih =>
    simp only [List.mem_cons, forall_eq_or_imp] at hw
    have h1 := ih (Mat.setCell_wf h w.1.1 w.1.2 w.2) hw.2
    simp only [Mat.setAll, List.foldl_cons] at h1 ⊢
    rw [h1, Mat.cell_setCell h, if_neg]
    rintro ⟨rfl, rfl, -⟩
    exact hw.1 rfl

/-- A cell that writes name, all with one content, has it afterwards. -/
theorem Mat.cell_setAll_of_mem {m : Mat} (h : Mat.Wf m) (ws : List CellWrite) (r c : Nat)
    (x : MCell) (hr : r < maxSide) (hc : c < maxSide) (hm : ((r, c), x) ∈ ws)
    (hw : ∀ w ∈ ws, w.1 = (r, c) → w.2 = x) : Mat.cell (Mat.setAll m ws) r c = x := by
  induction ws generalizing m with
  | nil => simp at hm
  | cons w ws ih =>
    simp only [List.mem_cons, forall_eq_or_imp] at hw
    by_cases h' : ((r, c), x) ∈ ws
    · exact ih (Mat.setCell_wf h w.1.1 w.1.2 w.2) h' hw.2
    · rcases List.mem_cons.1 hm with rfl | h''
      · have h1 := Mat.cell_setAll_of_not_mem (Mat.setCell_wf h r c x) ws r c fun w hw' he =>
          h' (by rw [← he, ← hw.2 w hw' he]; exact hw')
        simp only [Mat.setAll, List.foldl_cons] at h1 ⊢
        rw [h1, Mat.cell_setCell h, if_pos ⟨rfl, rfl, hr, hc⟩]
      · exact absurd h'' h'

/-- Rewriting the symbol keeps the shape. -/
theorem Mat.mapSquare_wf {m : Mat} (h : Mat.Wf m) (side : Nat) (f : Nat → Nat → MCell → MCell) :
    Mat.Wf (Mat.mapSquare side f m) := by
  refine ⟨by simpa [Mat.mapSquare] using h.1, fun row hrow => ?_⟩
  simp only [Mat.mapSquare, List.mem_map, Prod.exists] at hrow
  obtain ⟨row', i, hrow', rfl⟩ := hrow
  rw [List.length_map, List.length_zipIdx]
  exact h.2 _ (List.fst_mem_of_mem_zipIdx hrow')

/-- What a cell is after a rewrite of the symbol. -/
theorem Mat.cell_mapSquare {m : Mat} (h : Mat.Wf m) (side : Nat)
    (f : Nat → Nat → MCell → MCell) (r c : Nat) (hr : r < maxSide) (hc : c < maxSide) :
    Mat.cell (Mat.mapSquare side f m) r c =
      if r < side ∧ c < side then f r c (Mat.cell m r c) else Mat.cell m r c := by
  have hlt : r < m.length := by rw [h.1]; exact hr
  have hl : c < m[r].length := by rw [h.2 _ (List.getElem_mem hlt)]; exact hc
  simp [Mat.cell, Mat.mapSquare, List.getD_eq_getElem?_getD, List.getElem?_eq_getElem hlt,
    List.getElem?_eq_getElem hl]

end Sys2Proof.Machine
end

