-- ==== Sys2Proof/Laws/Memory.lean ====
section
/-! SUPPORT. Laws of the buffers: what a byte reads as after a write, and that every write keeps the
canonical form. -/

namespace Sys2Proof.Machine

theorem Memory.find_append (m m' : Memory) (x : Nat) :
    Memory.find (m ++ m') x = (Memory.find m x).or (Memory.find m' x) := by
  induction m with
  | nil => simp [Memory.find]
  | cons c m ih =>
    simp only [List.cons_append, Memory.find]
    split <;> simp [ih]

theorem Memory.find_eq_none {m : Memory} {x : Nat} (h : ∀ c ∈ m, c.1 ≠ x) : Memory.find m x = none := by
  induction m with
  | nil => rfl
  | cons c m ih =>
    simp only [List.mem_cons, forall_eq_or_imp] at h
    simp [Memory.find, h.1, ih h.2]

theorem Memory.find_entries (a : Nat) (vs : List Byte) (x : Nat) :
    Memory.find (Memory.entries a vs) x = if a ≤ x then vs[x - a]? else none := by
  induction vs generalizing a with
  | nil => simp [Memory.entries, Memory.find]
  | cons v vs ih =>
    simp only [Memory.entries, Memory.find, ih]
    by_cases h : a = x
    · subst h; simp
    · by_cases h' : a ≤ x
      · obtain ⟨k, rfl⟩ := Nat.exists_eq_add_of_lt (show a < x by omega)
        have h1 : a + k + 1 - a = k + 1 := by omega
        have h2 : a + k + 1 - (a + 1) = k := by omega
        have h3 : a + 1 ≤ a + k + 1 := by omega
        simp [h, h', h1, h2, h3]
      · have h3 : ¬ a + 1 ≤ x := by omega
        simp [h, h', h3]

theorem Memory.mem_entries {a : Nat} {vs : List Byte} {c : Host.Cell} (h : c ∈ Memory.entries a vs) :
    a ≤ c.1 ∧ c.1 < a + vs.length := by
  induction vs generalizing a with
  | nil => simp [Memory.entries] at h
  | cons v vs ih =>
    simp only [Memory.entries, List.mem_cons] at h
    rcases h with rfl | h
    · simp
    · have := ih h
      simp only [List.length_cons]
      omega

theorem Memory.entries_rising (a : Nat) (vs : List Byte) :
    (Memory.entries a vs).Pairwise (fun a b => a.1 < b.1) := by
  induction vs generalizing a with
  | nil => simp [Memory.entries]
  | cons v vs ih =>
    refine List.pairwise_cons.2 ⟨fun c hc => ?_, ih _⟩
    have := Memory.mem_entries hc
    simp only; omega

theorem Memory.mem_dropWhile_ge {m : Memory} (hm : m.Pairwise (fun a b => a.1 < b.1)) {b : Nat}
    {c : Host.Cell} (h : c ∈ m.dropWhile fun c => decide (c.1 < b)) : b ≤ c.1 := by
  induction m with
  | nil => simp at h
  | cons d m ih =>
    rw [List.pairwise_cons] at hm
    rw [List.dropWhile_cons] at h
    split at h
    · exact ih hm.2 h
    · rename_i hd
      simp only [decide_eq_true_eq, not_lt] at hd
      rcases List.mem_cons.1 h with rfl | h
      · exact hd
      · have := hm.1 c h
        omega

theorem Memory.mem_takeWhile_lt {m : Memory} {b : Nat} {c : Host.Cell}
    (h : c ∈ m.takeWhile fun c => decide (c.1 < b)) : c.1 < b := by
  simpa using List.mem_takeWhile_imp h

theorem Memory.find_takeWhile {m : Memory} (hm : m.Pairwise (fun a b => a.1 < b.1)) (b x : Nat)
    (h : x < b) : Memory.find (m.takeWhile fun c => decide (c.1 < b)) x = Memory.find m x := by
  conv_rhs => rw [← List.takeWhile_append_dropWhile (p := fun c : Host.Cell => decide (c.1 < b)) (l := m)]
  rw [Memory.find_append, Memory.find_eq_none (m := m.dropWhile _)]
  · simp
  · intro c hc
    have := Memory.mem_dropWhile_ge hm hc
    omega

theorem Memory.find_dropWhile {m : Memory} (b x : Nat) (h : b ≤ x) :
    Memory.find (m.dropWhile fun c => decide (c.1 < b)) x = Memory.find m x := by
  conv_rhs => rw [← List.takeWhile_append_dropWhile (p := fun c : Host.Cell => decide (c.1 < b)) (l := m)]
  rw [Memory.find_append, Memory.find_eq_none (m := m.takeWhile _)]
  · simp
  · intro c hc
    have := Memory.mem_takeWhile_lt hc
    omega

/-- What is written at an address after a write of bytes. -/
theorem Memory.find_writeBytes {m : Memory} (hm : m.Pairwise (fun a b => a.1 < b.1)) (a : Nat)
    (vs : List Byte) (x : Nat) :
    Memory.find (Memory.writeBytes m a vs) x =
      if a ≤ x ∧ x < a + vs.length then vs[x - a]? else Memory.find m x := by
  rw [Memory.writeBytes, Memory.find_append, Memory.find_append, Memory.find_entries]
  by_cases h1 : x < a
  · have h2 : ¬ (a ≤ x ∧ x < a + vs.length) := by omega
    have h3 : ¬ a ≤ x := by omega
    rw [Memory.find_takeWhile hm a x h1, Memory.find_eq_none (m := m.dropWhile _)]
    · simp [h3]
    · intro c hc
      have := Memory.mem_dropWhile_ge hm hc
      omega
  · have h3 : a ≤ x := by omega
    rw [Memory.find_eq_none (m := m.takeWhile _)]
    · by_cases h4 : x < a + vs.length
      · have h5 : x - a < vs.length := by omega
        simp [h3, h4, List.getElem?_eq_getElem h5]
      · have h5 : vs.length ≤ x - a := by omega
        rw [Memory.find_dropWhile _ _ (by omega)]
        simp [h3, h4, List.getElem?_eq_none h5]
    · intro c hc
      have := Memory.mem_takeWhile_lt hc
      omega

/-- A write within the buffers keeps the canonical form. -/
theorem Memory.writeBytes_wf {m : Memory} (hm : Memory.Wf m) (a : Nat) (vs : List Byte)
    (h : ∀ x, a ≤ x → x < a + vs.length → inBuffers x = true) : Memory.Wf (Memory.writeBytes m a vs) := by
  obtain ⟨hs, hr⟩ := hm
  constructor
  · rw [Memory.writeBytes, List.pairwise_append, List.pairwise_append]
    refine ⟨hs.sublist (List.takeWhile_sublist _), ⟨Memory.entries_rising a vs,
      hs.sublist (List.dropWhile_sublist _), ?_⟩, ?_⟩
    · intro c hc d hd
      have h1 := Memory.mem_entries hc
      have h2 := Memory.mem_dropWhile_ge hs hd
      omega
    · intro c hc d hd
      have h1 := Memory.mem_takeWhile_lt hc
      rcases List.mem_append.1 hd with hd | hd
      · have := Memory.mem_entries hd
        omega
      · have := Memory.mem_dropWhile_ge hs hd
        omega
  · intro c hc
    rw [Memory.writeBytes, List.mem_append, List.mem_append] at hc
    rcases hc with hc | hc | hc
    · exact hr c ((List.takeWhile_sublist _).subset hc)
    · have := Memory.mem_entries hc
      exact h _ this.1 this.2
    · exact hr c ((List.dropWhile_sublist _).subset hc)

/-- A byte after `MemWrite`: the byte written inside the written range, the old one outside. -/
theorem byteAt_memWrite {s : State} (hm : Memory.Wf s.mem) (base i : Nat) (vs : List Byte) (a : Nat) :
    (s.memWrite base i vs).byteAt a =
      if a < base + i then s.byteAt a else (vs[a - (base + i)]?).getD (s.byteAt a) := by
  simp only [State.byteAt, State.memWrite]
  rw [Memory.find_writeBytes hm.1]
  by_cases h1 : a < base + i
  · have h2 : ¬ (base + i ≤ a ∧ a < base + i + vs.length) := by omega
    simp [h1, h2]
  · by_cases h3 : a < base + i + vs.length
    · have h4 : a - (base + i) < vs.length := by omega
      have h5 : base + i ≤ a := by omega
      simp [h1, h3, h5, List.getElem?_eq_getElem h4]
    · have h4 : vs.length ≤ a - (base + i) := by omega
      simp [h1, h3, List.getElem?_eq_none h4]

/-- `MemWrite` leaves every byte outside the written range. -/
theorem byteAt_memWrite_outside {s : State} (hm : Memory.Wf s.mem) (base i : Nat) (vs : List Byte) (a : Nat)
    (h : a < base + i ∨ base + i + vs.length ≤ a) : (s.memWrite base i vs).byteAt a = s.byteAt a := by
  rw [byteAt_memWrite hm]
  split
  · rfl
  · rw [List.getElem?_eq_none (by omega)]; rfl

@[simp] theorem length_memRead (s : State) (base i n : Nat) : (s.memRead base i n).length = n := by
  simp [State.memRead]

/-- `MemRead` of what `MemWrite` has just written gives it back. -/
theorem memRead_memWrite {s : State} (hm : Memory.Wf s.mem) (base i : Nat) (vs : List Byte) :
    (s.memWrite base i vs).memRead base i vs.length = vs := by
  apply List.ext_getElem
  · simp
  · intro j h1 h2
    simp only [State.memRead, List.getElem_map, List.getElem_range]
    rw [byteAt_memWrite hm]
    have h3 : ¬ base + i + j < base + i := by omega
    have h4 : base + i + j - (base + i) = j := by omega
    simp [h3, h4, List.getElem?_eq_getElem h2]

/-- `MemRead` of bytes outside a written range gives what it gave before. -/
theorem memRead_memWrite_outside {s : State} (hm : Memory.Wf s.mem) (base i : Nat) (vs : List Byte)
    (base' i' n : Nat) (h : base' + i' + n ≤ base + i ∨ base + i + vs.length ≤ base' + i') :
    (s.memWrite base i vs).memRead base' i' n = s.memRead base' i' n := by
  simp only [State.memRead]
  apply List.map_congr_left
  intro j hj
  rw [List.mem_range] at hj
  exact byteAt_memWrite_outside hm _ _ _ _ (by omega)

/-- Filling a buffer writes its whole size when the bytes fit. -/
theorem length_fill {size : Nat} {vs : List Byte} (h : vs.length ≤ size) :
    (vs ++ List.replicate (size - vs.length) (0 : Byte)).length = size := by
  simp; omega

/-- Filling a buffer within the buffers keeps the canonical form. -/
theorem fillBuffer_wf {s : State} (hm : Memory.Wf s.mem) (base size : Nat) (vs : List Byte)
    (hl : vs.length ≤ size) (h : ∀ x, base ≤ x → x < base + size → inBuffers x = true) :
    Memory.Wf (s.fillBuffer base size vs).mem := by
  refine Memory.writeBytes_wf hm _ _ fun x h1 h2 => h x (by simpa using h1) ?_
  rw [length_fill hl] at h2
  simpa using h2

/-- A write of a DATA_BUF word keeps the canonical form. -/
theorem writeData_wf {s : State} (hm : Memory.Wf s.mem) (a : Nat) (d : Word) (h1 : dataBase ≤ a)
    (h2 : a + 4 ≤ dataBase + dataBufSize) : Memory.Wf (s.writeData a d).mem := by
  refine Memory.writeBytes_wf hm _ _ fun x hx hx' => ?_
  simp only [wordBytes, List.length_cons, List.length_nil] at hx'
  simp only [inBuffers, Bool.or_eq_true, Bool.and_eq_true, decide_eq_true_eq]
  exact .inl (.inl (.inl ⟨by omega, by omega⟩))

/-- Right after reset nothing is listed, which is the canonical form. -/
theorem reset_mem_wf : Memory.Wf State.reset.mem := by simp [State.reset, Memory.Wf]

end Sys2Proof.Machine
end

