-- ==== Sys2Proof/Laws/Penalty.lean ====
section
/-! SUPPORT. What each list function of the penalty rules counts: the runs of a line, the columns of a
grid, the 2 × 2 blocks of two rows, the finder-like occurrences of a line. -/

namespace Sys2Proof.Machine

/-- `runsFrom b n` gives the lengths of the maximal runs of n cells of colour b and the rest. -/
theorem exists_runs_runsFrom (b : Bool) (n : Nat) (xs : List Bool) (hn : 1 ≤ n) :
    ∃ runs : List (Bool × Nat), runs.head?.map Prod.fst = some b ∧
      IsRuns runs (List.replicate n b ++ xs) ∧ runs.map Prod.snd = runsFrom b n xs := by
  induction xs generalizing b n with
  | nil => exact ⟨[(b, n)], rfl, ⟨by simpa using hn, by simp, by simp⟩, rfl⟩
  | cons x xs ih =>
    by_cases h : x = b
    · subst h
      obtain ⟨runs, h1, h2, h3⟩ := ih x (n + 1) (by omega)
      refine ⟨runs, h1, ?_, by simpa [runsFrom] using h3⟩
      rwa [List.replicate_succ', List.append_assoc] at h2
    · obtain ⟨runs, h1, ⟨h2, h3, h4⟩, h5⟩ := ih x 1 (by omega)
      refine ⟨(b, n) :: runs, rfl, ⟨by simpa using ⟨hn, by simpa using h2⟩, ?_, by simpa using h4⟩,
        by simp [runsFrom, h, h5]⟩
      cases runs with
      | nil => simp
      | cons q runs =>
        have hq : q.1 = x := by simpa using h1
        exact List.isChain_cons_cons.mpr ⟨by simpa [hq] using fun h' => h h'.symm, h3⟩

/-- `runLengths` gives the lengths of the maximal runs of a line (R115). -/
theorem exists_runs (line : List Bool) :
    ∃ runs : List (Bool × Nat), IsRuns runs line ∧ runs.map Prod.snd = runLengths line := by
  cases line with
  | nil => exact ⟨[], ⟨by simp, by simp, rfl⟩, rfl⟩
  | cons x xs =>
    obtain ⟨runs, -, h, h'⟩ := exists_runs_runsFrom x 1 xs le_rfl
    exact ⟨runs, h, h'⟩

/-- Column c of a grid is the cells c of its rows (R114). -/
theorem gridColumns_eq (side : Nat) (rows : List (List Bool)) (h : ∀ r ∈ rows, r.length = side) :
    gridColumns side rows = (List.range side).map fun c => rows.map fun r => r.getD c false := by
  induction rows with
  | nil => exact List.ext_getElem (by simp [gridColumns]) fun i h1 h2 => by simp [gridColumns]
  | cons r rows ih =>
    have hr : r.length = side := h r (by simp)
    have hs := ih fun r' hr' => h r' (by simp [hr'])
    change List.zipWith List.cons r (gridColumns side rows) = _
    rw [hs]
    apply List.ext_getElem
    · simp [hr]
    · intro i h1 h2
      simp [List.getD_eq_getElem?_getD]
      rw [List.getElem?_eq_getElem (by simp at h1; omega)]
      rfl

/-- `blocksInRows` counts the positions j where the four cells j and j + 1 of both rows agree (R116). -/
theorem blocksInRows_eq (a b : List Bool) (h : a.length = b.length) :
    blocksInRows a b = (List.range (a.length - 1)).countP fun j =>
      decide (a[j]? = a[j + 1]? ∧ a[j]? = b[j]? ∧ a[j]? = b[j + 1]?) := by
  induction a generalizing b with
  | nil => simp [blocksInRows]
  | cons x a ih =>
    cases b with
    | nil => simp at h
    | cons y b =>
      cases a with
      | nil => simp [blocksInRows]
      | cons x' a =>
        cases b with
        | nil => simp at h
        | cons y' b =>
          have := ih (y' :: b) (by simpa using h)
          simp only [blocksInRows, this]
          simp only [List.length_cons, Nat.add_sub_cancel, List.range_succ_eq_map, List.countP_cons,
            List.countP_map]
          rw [Nat.add_comm]
          congr 1
          simp

/-- `finderLikeFrom` counts the positions of a line at which an occurrence starts (R117). -/
theorem finderLikeFrom_eq (before xs : List Bool) :
    finderLikeFrom before xs = (List.range xs.length).countP fun i =>
      finderLikeHere ((xs.take i).reverse ++ before) (xs.drop i) := by
  induction xs generalizing before with
  | nil => rfl
  | cons x xs ih =>
    simp only [finderLikeFrom, ih, List.length_cons, List.range_succ_eq_map, List.countP_cons, List.countP_map]
    rw [Nat.add_comm]
    simp [Function.comp_def]

end Sys2Proof.Machine
end

