-- ==== Sys2Proof/Laws/PerInstr.lean ====
section
/-! SUPPORT. Per-command facts about the syntax: for each command, its fields are well-formed and its
word carries exactly them (spec 30_encoding.md R68 to R72). -/

namespace Sys2Proof.Laws.FieldsOfWord

/-- The command is well-formed and `encode` lays its fields out as format C does. -/
def Statement (i : Instr) : Prop := i.wellFormed = true ∧ encode i = i.fields.toWord

theorem nop : Statement .nop := ⟨by decide, by decide⟩
theorem gfadd : Statement .gfadd := ⟨by decide, by decide⟩
theorem gfmul : Statement .gfmul := ⟨by decide, by decide⟩
theorem gfexp : Statement .gfexp := ⟨by decide, by decide⟩
theorem gflog : Statement .gflog := ⟨by decide, by decide⟩
theorem rsgen (n : BitVec 8) : Statement (.rsgen n) := by
  refine ⟨by simp [Instr.wellFormed, Instr.fields, CmdFields.wellFormed, CmdFields.opDefined,
    CmdFields.definedOps, CmdFields.usesM, CmdFields.usesN, CmdFields.usesK], ?_⟩
  revert n; decide
theorem rsenc (n k : BitVec 8) : Statement (.rsenc n k) := by
  refine ⟨by simp [Instr.wellFormed, Instr.fields, CmdFields.wellFormed, CmdFields.opDefined,
    CmdFields.definedOps, CmdFields.usesM, CmdFields.usesN, CmdFields.usesK], ?_⟩
  have h1 : ∀ n : BitVec 8, (0x21#32 ||| n.setWidth 32 <<< 16) =
      (0#8 ++ n ++ 0#5 ++ 0#3 ++ 0x21#8 : BitVec (8 + 8 + 5 + 3 + 8)).cast rfl := by decide
  have h2 : ∀ k : BitVec 8, k.setWidth 32 <<< 24 = (k ++ 0#24 : BitVec (8 + 24)).cast rfl := by decide
  have h3 : encode (.rsenc n k) = (0x21#32 ||| n.setWidth 32 <<< 16) ||| k.setWidth 32 <<< 24 := by
    simp [Sys2Proof.encode, Instr.fixedBits, Instr.operandM, Instr.operandN, Instr.operandK]
  have h4 : (Instr.rsenc n k).fields.toWord =
      (k ++ n ++ 0#5 ++ 0#3 ++ 0x21#8 : BitVec (8 + 8 + 5 + 3 + 8)).cast rfl := rfl
  rw [h3, h4, h1, h2]
  ext i hi
  simp only [BitVec.getElem_or, BitVec.getElem_cast, BitVec.getElem_append]
  split_ifs <;> first | omega | simp [Nat.sub_sub]
theorem eccode : Statement .eccode := ⟨by decide, by decide⟩
theorem minit : Statement .minit := ⟨by decide, by decide⟩
theorem mfunc : Statement .mfunc := ⟨by decide, by decide⟩
theorem mdata : Statement .mdata := ⟨by decide, by decide⟩
theorem mscore (m : BitVec 3) : Statement (.mscore m) := by revert m; unfold Statement; decide
theorem meval : Statement .meval := ⟨by decide, by decide⟩
theorem mapply (m : BitVec 3) : Statement (.mapply m) := by revert m; unfold Statement; decide
theorem mapsel : Statement .mapsel := ⟨by decide, by decide⟩
theorem encode : Statement .encode := ⟨by decide, by decide⟩

end Sys2Proof.Laws.FieldsOfWord
end

