-- ==== Sys2Proof/Laws/State.lean ====
section
/-! SUPPORT. The small lemmas of State: each field after each update, true by rfl, so that no later
proof unfolds a record update. -/

namespace Sys2Proof.Machine

variable (s : State)

section Complete

variable (op : BitVec 8)

@[simp] theorem complete_status : (s.complete op).status = { s.status with done := true, err := false, ecode := 0, lastop := op } := rfl
@[simp] theorem complete_ie : (s.complete op).ie = s.ie := rfl
@[simp] theorem complete_cfg : (s.complete op).cfg = s.cfg := rfl
@[simp] theorem complete_dlen : (s.complete op).dlen = s.dlen := rfl
@[simp] theorem complete_gfA : (s.complete op).gfA = s.gfA := rfl
@[simp] theorem complete_gfB : (s.complete op).gfB = s.gfB := rfl
@[simp] theorem complete_gfRes : (s.complete op).gfRes = s.gfRes := rfl
@[simp] theorem complete_ntotal : (s.complete op).ntotal = s.ntotal := rfl
@[simp] theorem complete_ndata : (s.complete op).ndata = s.ndata := rfl
@[simp] theorem complete_blocks : (s.complete op).blocks = s.blocks := rfl
@[simp] theorem complete_remBits : (s.complete op).remBits = s.remBits := rfl
@[simp] theorem complete_side : (s.complete op).side = s.side := rfl
@[simp] theorem complete_maskSel : (s.complete op).maskSel = s.maskSel := rfl
@[simp] theorem complete_penvalid : (s.complete op).penvalid = s.penvalid := rfl
@[simp] theorem complete_fmtBits : (s.complete op).fmtBits = s.fmtBits := rfl
@[simp] theorem complete_verBits : (s.complete op).verBits = s.verBits := rfl
@[simp] theorem complete_pen : (s.complete op).pen = s.pen := rfl
@[simp] theorem complete_pd1 : (s.complete op).pd1 = s.pd1 := rfl
@[simp] theorem complete_pd2 : (s.complete op).pd2 = s.pd2 := rfl
@[simp] theorem complete_pd3 : (s.complete op).pd3 = s.pd3 := rfl
@[simp] theorem complete_pd4 : (s.complete op).pd4 = s.pd4 := rfl
@[simp] theorem complete_pendcmd : (s.complete op).pendcmd = none := rfl
@[simp] theorem complete_mem : (s.complete op).mem = s.mem := rfl
@[simp] theorem complete_mat : (s.complete op).mat = s.mat := rfl
@[simp] theorem complete_agenda : (s.complete op).agenda = s.agenda := rfl
@[simp] theorem complete_resp : (s.complete op).resp = s.resp := rfl
@[simp] theorem complete_epoch : (s.complete op).epoch = s.epoch := rfl
@[simp] theorem complete_draws : (s.complete op).draws = s.draws := rfl

end Complete

section ErrorComplete

variable (op : BitVec 8) (e : CmdError)

@[simp] theorem errorComplete_status : (s.errorComplete op e).status = { s.status with done := true, err := true, ecode := e.code, lastop := op } := rfl
@[simp] theorem errorComplete_ie : (s.errorComplete op e).ie = s.ie := rfl
@[simp] theorem errorComplete_cfg : (s.errorComplete op e).cfg = s.cfg := rfl
@[simp] theorem errorComplete_dlen : (s.errorComplete op e).dlen = s.dlen := rfl
@[simp] theorem errorComplete_gfA : (s.errorComplete op e).gfA = s.gfA := rfl
@[simp] theorem errorComplete_gfB : (s.errorComplete op e).gfB = s.gfB := rfl
@[simp] theorem errorComplete_gfRes : (s.errorComplete op e).gfRes = s.gfRes := rfl
@[simp] theorem errorComplete_ntotal : (s.errorComplete op e).ntotal = s.ntotal := rfl
@[simp] theorem errorComplete_ndata : (s.errorComplete op e).ndata = s.ndata := rfl
@[simp] theorem errorComplete_blocks : (s.errorComplete op e).blocks = s.blocks := rfl
@[simp] theorem errorComplete_remBits : (s.errorComplete op e).remBits = s.remBits := rfl
@[simp] theorem errorComplete_side : (s.errorComplete op e).side = s.side := rfl
@[simp] theorem errorComplete_maskSel : (s.errorComplete op e).maskSel = s.maskSel := rfl
@[simp] theorem errorComplete_penvalid : (s.errorComplete op e).penvalid = s.penvalid := rfl
@[simp] theorem errorComplete_fmtBits : (s.errorComplete op e).fmtBits = s.fmtBits := rfl
@[simp] theorem errorComplete_verBits : (s.errorComplete op e).verBits = s.verBits := rfl
@[simp] theorem errorComplete_pen : (s.errorComplete op e).pen = s.pen := rfl
@[simp] theorem errorComplete_pd1 : (s.errorComplete op e).pd1 = s.pd1 := rfl
@[simp] theorem errorComplete_pd2 : (s.errorComplete op e).pd2 = s.pd2 := rfl
@[simp] theorem errorComplete_pd3 : (s.errorComplete op e).pd3 = s.pd3 := rfl
@[simp] theorem errorComplete_pd4 : (s.errorComplete op e).pd4 = s.pd4 := rfl
@[simp] theorem errorComplete_pendcmd : (s.errorComplete op e).pendcmd = none := rfl
@[simp] theorem errorComplete_mem : (s.errorComplete op e).mem = s.mem := rfl
@[simp] theorem errorComplete_mat : (s.errorComplete op e).mat = s.mat := rfl
@[simp] theorem errorComplete_agenda : (s.errorComplete op e).agenda = s.agenda := rfl
@[simp] theorem errorComplete_resp : (s.errorComplete op e).resp = s.resp := rfl
@[simp] theorem errorComplete_epoch : (s.errorComplete op e).epoch = s.epoch := rfl
@[simp] theorem errorComplete_draws : (s.errorComplete op e).draws = s.draws := rfl

end ErrorComplete

section BusError

variable (e : BusError)

@[simp] theorem busError_status : (s.busError e).status = { s.status with bcode := if s.status.berr then s.status.bcode else e.code, berr := true } := rfl
@[simp] theorem busError_ie : (s.busError e).ie = s.ie := rfl
@[simp] theorem busError_cfg : (s.busError e).cfg = s.cfg := rfl
@[simp] theorem busError_dlen : (s.busError e).dlen = s.dlen := rfl
@[simp] theorem busError_gfA : (s.busError e).gfA = s.gfA := rfl
@[simp] theorem busError_gfB : (s.busError e).gfB = s.gfB := rfl
@[simp] theorem busError_gfRes : (s.busError e).gfRes = s.gfRes := rfl
@[simp] theorem busError_ntotal : (s.busError e).ntotal = s.ntotal := rfl
@[simp] theorem busError_ndata : (s.busError e).ndata = s.ndata := rfl
@[simp] theorem busError_blocks : (s.busError e).blocks = s.blocks := rfl
@[simp] theorem busError_remBits : (s.busError e).remBits = s.remBits := rfl
@[simp] theorem busError_side : (s.busError e).side = s.side := rfl
@[simp] theorem busError_maskSel : (s.busError e).maskSel = s.maskSel := rfl
@[simp] theorem busError_penvalid : (s.busError e).penvalid = s.penvalid := rfl
@[simp] theorem busError_fmtBits : (s.busError e).fmtBits = s.fmtBits := rfl
@[simp] theorem busError_verBits : (s.busError e).verBits = s.verBits := rfl
@[simp] theorem busError_pen : (s.busError e).pen = s.pen := rfl
@[simp] theorem busError_pd1 : (s.busError e).pd1 = s.pd1 := rfl
@[simp] theorem busError_pd2 : (s.busError e).pd2 = s.pd2 := rfl
@[simp] theorem busError_pd3 : (s.busError e).pd3 = s.pd3 := rfl
@[simp] theorem busError_pd4 : (s.busError e).pd4 = s.pd4 := rfl
@[simp] theorem busError_pendcmd : (s.busError e).pendcmd = s.pendcmd := rfl
@[simp] theorem busError_mem : (s.busError e).mem = s.mem := rfl
@[simp] theorem busError_mat : (s.busError e).mat = s.mat := rfl
@[simp] theorem busError_agenda : (s.busError e).agenda = s.agenda := rfl
@[simp] theorem busError_resp : (s.busError e).resp = s.resp := rfl
@[simp] theorem busError_epoch : (s.busError e).epoch = s.epoch := rfl
@[simp] theorem busError_draws : (s.busError e).draws = s.draws := rfl

end BusError

section Respond

variable (d : Word) (ok : Bool)

@[simp] theorem respond_status : (s.respond d ok).status = s.status := rfl
@[simp] theorem respond_ie : (s.respond d ok).ie = s.ie := rfl
@[simp] theorem respond_cfg : (s.respond d ok).cfg = s.cfg := rfl
@[simp] theorem respond_dlen : (s.respond d ok).dlen = s.dlen := rfl
@[simp] theorem respond_gfA : (s.respond d ok).gfA = s.gfA := rfl
@[simp] theorem respond_gfB : (s.respond d ok).gfB = s.gfB := rfl
@[simp] theorem respond_gfRes : (s.respond d ok).gfRes = s.gfRes := rfl
@[simp] theorem respond_ntotal : (s.respond d ok).ntotal = s.ntotal := rfl
@[simp] theorem respond_ndata : (s.respond d ok).ndata = s.ndata := rfl
@[simp] theorem respond_blocks : (s.respond d ok).blocks = s.blocks := rfl
@[simp] theorem respond_remBits : (s.respond d ok).remBits = s.remBits := rfl
@[simp] theorem respond_side : (s.respond d ok).side = s.side := rfl
@[simp] theorem respond_maskSel : (s.respond d ok).maskSel = s.maskSel := rfl
@[simp] theorem respond_penvalid : (s.respond d ok).penvalid = s.penvalid := rfl
@[simp] theorem respond_fmtBits : (s.respond d ok).fmtBits = s.fmtBits := rfl
@[simp] theorem respond_verBits : (s.respond d ok).verBits = s.verBits := rfl
@[simp] theorem respond_pen : (s.respond d ok).pen = s.pen := rfl
@[simp] theorem respond_pd1 : (s.respond d ok).pd1 = s.pd1 := rfl
@[simp] theorem respond_pd2 : (s.respond d ok).pd2 = s.pd2 := rfl
@[simp] theorem respond_pd3 : (s.respond d ok).pd3 = s.pd3 := rfl
@[simp] theorem respond_pd4 : (s.respond d ok).pd4 = s.pd4 := rfl
@[simp] theorem respond_pendcmd : (s.respond d ok).pendcmd = s.pendcmd := rfl
@[simp] theorem respond_mem : (s.respond d ok).mem = s.mem := rfl
@[simp] theorem respond_mat : (s.respond d ok).mat = s.mat := rfl
@[simp] theorem respond_agenda : (s.respond d ok).agenda = s.agenda := rfl
@[simp] theorem respond_resp : (s.respond d ok).resp = some ⟨d, ok⟩ := rfl
@[simp] theorem respond_epoch : (s.respond d ok).epoch = s.epoch := rfl
@[simp] theorem respond_draws : (s.respond d ok).draws = s.draws := rfl

end Respond

section Issue

variable (w : Word)

@[simp] theorem issue_status : (s.issue w).status = { s.status with done := false, err := false, ecode := 0 } := rfl
@[simp] theorem issue_ie : (s.issue w).ie = s.ie := rfl
@[simp] theorem issue_cfg : (s.issue w).cfg = s.cfg := rfl
@[simp] theorem issue_dlen : (s.issue w).dlen = s.dlen := rfl
@[simp] theorem issue_gfA : (s.issue w).gfA = s.gfA := rfl
@[simp] theorem issue_gfB : (s.issue w).gfB = s.gfB := rfl
@[simp] theorem issue_gfRes : (s.issue w).gfRes = s.gfRes := rfl
@[simp] theorem issue_ntotal : (s.issue w).ntotal = s.ntotal := rfl
@[simp] theorem issue_ndata : (s.issue w).ndata = s.ndata := rfl
@[simp] theorem issue_blocks : (s.issue w).blocks = s.blocks := rfl
@[simp] theorem issue_remBits : (s.issue w).remBits = s.remBits := rfl
@[simp] theorem issue_side : (s.issue w).side = s.side := rfl
@[simp] theorem issue_maskSel : (s.issue w).maskSel = s.maskSel := rfl
@[simp] theorem issue_penvalid : (s.issue w).penvalid = s.penvalid := rfl
@[simp] theorem issue_fmtBits : (s.issue w).fmtBits = s.fmtBits := rfl
@[simp] theorem issue_verBits : (s.issue w).verBits = s.verBits := rfl
@[simp] theorem issue_pen : (s.issue w).pen = s.pen := rfl
@[simp] theorem issue_pd1 : (s.issue w).pd1 = s.pd1 := rfl
@[simp] theorem issue_pd2 : (s.issue w).pd2 = s.pd2 := rfl
@[simp] theorem issue_pd3 : (s.issue w).pd3 = s.pd3 := rfl
@[simp] theorem issue_pd4 : (s.issue w).pd4 = s.pd4 := rfl
@[simp] theorem issue_pendcmd : (s.issue w).pendcmd = some w := rfl
@[simp] theorem issue_mem : (s.issue w).mem = s.mem := rfl
@[simp] theorem issue_mat : (s.issue w).mat = s.mat := rfl
@[simp] theorem issue_agenda : (s.issue w).agenda = s.agenda := rfl
@[simp] theorem issue_resp : (s.issue w).resp = s.resp := rfl
@[simp] theorem issue_epoch : (s.issue w).epoch = s.epoch := rfl
@[simp] theorem issue_draws : (s.issue w).draws = s.draws := rfl

end Issue

section MemWrite

variable (b i : Nat) (vs : List Byte)

@[simp] theorem memWrite_status : (s.memWrite b i vs).status = s.status := rfl
@[simp] theorem memWrite_ie : (s.memWrite b i vs).ie = s.ie := rfl
@[simp] theorem memWrite_cfg : (s.memWrite b i vs).cfg = s.cfg := rfl
@[simp] theorem memWrite_dlen : (s.memWrite b i vs).dlen = s.dlen := rfl
@[simp] theorem memWrite_gfA : (s.memWrite b i vs).gfA = s.gfA := rfl
@[simp] theorem memWrite_gfB : (s.memWrite b i vs).gfB = s.gfB := rfl
@[simp] theorem memWrite_gfRes : (s.memWrite b i vs).gfRes = s.gfRes := rfl
@[simp] theorem memWrite_ntotal : (s.memWrite b i vs).ntotal = s.ntotal := rfl
@[simp] theorem memWrite_ndata : (s.memWrite b i vs).ndata = s.ndata := rfl
@[simp] theorem memWrite_blocks : (s.memWrite b i vs).blocks = s.blocks := rfl
@[simp] theorem memWrite_remBits : (s.memWrite b i vs).remBits = s.remBits := rfl
@[simp] theorem memWrite_side : (s.memWrite b i vs).side = s.side := rfl
@[simp] theorem memWrite_maskSel : (s.memWrite b i vs).maskSel = s.maskSel := rfl
@[simp] theorem memWrite_penvalid : (s.memWrite b i vs).penvalid = s.penvalid := rfl
@[simp] theorem memWrite_fmtBits : (s.memWrite b i vs).fmtBits = s.fmtBits := rfl
@[simp] theorem memWrite_verBits : (s.memWrite b i vs).verBits = s.verBits := rfl
@[simp] theorem memWrite_pen : (s.memWrite b i vs).pen = s.pen := rfl
@[simp] theorem memWrite_pd1 : (s.memWrite b i vs).pd1 = s.pd1 := rfl
@[simp] theorem memWrite_pd2 : (s.memWrite b i vs).pd2 = s.pd2 := rfl
@[simp] theorem memWrite_pd3 : (s.memWrite b i vs).pd3 = s.pd3 := rfl
@[simp] theorem memWrite_pd4 : (s.memWrite b i vs).pd4 = s.pd4 := rfl
@[simp] theorem memWrite_pendcmd : (s.memWrite b i vs).pendcmd = s.pendcmd := rfl
@[simp] theorem memWrite_mem : (s.memWrite b i vs).mem = Memory.writeBytes s.mem (b + i) vs := rfl
@[simp] theorem memWrite_mat : (s.memWrite b i vs).mat = s.mat := rfl
@[simp] theorem memWrite_agenda : (s.memWrite b i vs).agenda = s.agenda := rfl
@[simp] theorem memWrite_resp : (s.memWrite b i vs).resp = s.resp := rfl
@[simp] theorem memWrite_epoch : (s.memWrite b i vs).epoch = s.epoch := rfl
@[simp] theorem memWrite_draws : (s.memWrite b i vs).draws = s.draws := rfl

end MemWrite

section FillBuffer

variable (b n : Nat) (vs : List Byte)

@[simp] theorem fillBuffer_status : (s.fillBuffer b n vs).status = s.status := rfl
@[simp] theorem fillBuffer_ie : (s.fillBuffer b n vs).ie = s.ie := rfl
@[simp] theorem fillBuffer_cfg : (s.fillBuffer b n vs).cfg = s.cfg := rfl
@[simp] theorem fillBuffer_dlen : (s.fillBuffer b n vs).dlen = s.dlen := rfl
@[simp] theorem fillBuffer_gfA : (s.fillBuffer b n vs).gfA = s.gfA := rfl
@[simp] theorem fillBuffer_gfB : (s.fillBuffer b n vs).gfB = s.gfB := rfl
@[simp] theorem fillBuffer_gfRes : (s.fillBuffer b n vs).gfRes = s.gfRes := rfl
@[simp] theorem fillBuffer_ntotal : (s.fillBuffer b n vs).ntotal = s.ntotal := rfl
@[simp] theorem fillBuffer_ndata : (s.fillBuffer b n vs).ndata = s.ndata := rfl
@[simp] theorem fillBuffer_blocks : (s.fillBuffer b n vs).blocks = s.blocks := rfl
@[simp] theorem fillBuffer_remBits : (s.fillBuffer b n vs).remBits = s.remBits := rfl
@[simp] theorem fillBuffer_side : (s.fillBuffer b n vs).side = s.side := rfl
@[simp] theorem fillBuffer_maskSel : (s.fillBuffer b n vs).maskSel = s.maskSel := rfl
@[simp] theorem fillBuffer_penvalid : (s.fillBuffer b n vs).penvalid = s.penvalid := rfl
@[simp] theorem fillBuffer_fmtBits : (s.fillBuffer b n vs).fmtBits = s.fmtBits := rfl
@[simp] theorem fillBuffer_verBits : (s.fillBuffer b n vs).verBits = s.verBits := rfl
@[simp] theorem fillBuffer_pen : (s.fillBuffer b n vs).pen = s.pen := rfl
@[simp] theorem fillBuffer_pd1 : (s.fillBuffer b n vs).pd1 = s.pd1 := rfl
@[simp] theorem fillBuffer_pd2 : (s.fillBuffer b n vs).pd2 = s.pd2 := rfl
@[simp] theorem fillBuffer_pd3 : (s.fillBuffer b n vs).pd3 = s.pd3 := rfl
@[simp] theorem fillBuffer_pd4 : (s.fillBuffer b n vs).pd4 = s.pd4 := rfl
@[simp] theorem fillBuffer_pendcmd : (s.fillBuffer b n vs).pendcmd = s.pendcmd := rfl
@[simp] theorem fillBuffer_mem : (s.fillBuffer b n vs).mem = Memory.writeBytes s.mem (b + 0) (vs ++ List.replicate (n - vs.length) 0) := rfl
@[simp] theorem fillBuffer_mat : (s.fillBuffer b n vs).mat = s.mat := rfl
@[simp] theorem fillBuffer_agenda : (s.fillBuffer b n vs).agenda = s.agenda := rfl
@[simp] theorem fillBuffer_resp : (s.fillBuffer b n vs).resp = s.resp := rfl
@[simp] theorem fillBuffer_epoch : (s.fillBuffer b n vs).epoch = s.epoch := rfl
@[simp] theorem fillBuffer_draws : (s.fillBuffer b n vs).draws = s.draws := rfl

end FillBuffer

section SetGfRes

variable (v : Byte)

@[simp] theorem setGfRes_status : (s.setGfRes v).status = s.status := rfl
@[simp] theorem setGfRes_ie : (s.setGfRes v).ie = s.ie := rfl
@[simp] theorem setGfRes_cfg : (s.setGfRes v).cfg = s.cfg := rfl
@[simp] theorem setGfRes_dlen : (s.setGfRes v).dlen = s.dlen := rfl
@[simp] theorem setGfRes_gfA : (s.setGfRes v).gfA = s.gfA := rfl
@[simp] theorem setGfRes_gfB : (s.setGfRes v).gfB = s.gfB := rfl
@[simp] theorem setGfRes_gfRes : (s.setGfRes v).gfRes = v := rfl
@[simp] theorem setGfRes_ntotal : (s.setGfRes v).ntotal = s.ntotal := rfl
@[simp] theorem setGfRes_ndata : (s.setGfRes v).ndata = s.ndata := rfl
@[simp] theorem setGfRes_blocks : (s.setGfRes v).blocks = s.blocks := rfl
@[simp] theorem setGfRes_remBits : (s.setGfRes v).remBits = s.remBits := rfl
@[simp] theorem setGfRes_side : (s.setGfRes v).side = s.side := rfl
@[simp] theorem setGfRes_maskSel : (s.setGfRes v).maskSel = s.maskSel := rfl
@[simp] theorem setGfRes_penvalid : (s.setGfRes v).penvalid = s.penvalid := rfl
@[simp] theorem setGfRes_fmtBits : (s.setGfRes v).fmtBits = s.fmtBits := rfl
@[simp] theorem setGfRes_verBits : (s.setGfRes v).verBits = s.verBits := rfl
@[simp] theorem setGfRes_pen : (s.setGfRes v).pen = s.pen := rfl
@[simp] theorem setGfRes_pd1 : (s.setGfRes v).pd1 = s.pd1 := rfl
@[simp] theorem setGfRes_pd2 : (s.setGfRes v).pd2 = s.pd2 := rfl
@[simp] theorem setGfRes_pd3 : (s.setGfRes v).pd3 = s.pd3 := rfl
@[simp] theorem setGfRes_pd4 : (s.setGfRes v).pd4 = s.pd4 := rfl
@[simp] theorem setGfRes_pendcmd : (s.setGfRes v).pendcmd = s.pendcmd := rfl
@[simp] theorem setGfRes_mem : (s.setGfRes v).mem = s.mem := rfl
@[simp] theorem setGfRes_mat : (s.setGfRes v).mat = s.mat := rfl
@[simp] theorem setGfRes_agenda : (s.setGfRes v).agenda = s.agenda := rfl
@[simp] theorem setGfRes_resp : (s.setGfRes v).resp = s.resp := rfl
@[simp] theorem setGfRes_epoch : (s.setGfRes v).epoch = s.epoch := rfl
@[simp] theorem setGfRes_draws : (s.setGfRes v).draws = s.draws := rfl

end SetGfRes

section SetEcRegs

variable (r : BlockRow)

@[simp] theorem setEcRegs_status : (s.setEcRegs r).status = s.status := rfl
@[simp] theorem setEcRegs_ie : (s.setEcRegs r).ie = s.ie := rfl
@[simp] theorem setEcRegs_cfg : (s.setEcRegs r).cfg = s.cfg := rfl
@[simp] theorem setEcRegs_dlen : (s.setEcRegs r).dlen = s.dlen := rfl
@[simp] theorem setEcRegs_gfA : (s.setEcRegs r).gfA = s.gfA := rfl
@[simp] theorem setEcRegs_gfB : (s.setEcRegs r).gfB = s.gfB := rfl
@[simp] theorem setEcRegs_gfRes : (s.setEcRegs r).gfRes = s.gfRes := rfl
@[simp] theorem setEcRegs_ntotal : (s.setEcRegs r).ntotal = BitVec.ofNat 12 r.ntotal := rfl
@[simp] theorem setEcRegs_ndata : (s.setEcRegs r).ndata = BitVec.ofNat 12 r.ndata := rfl
@[simp] theorem setEcRegs_blocks : (s.setEcRegs r).blocks = r.blocksWord := rfl
@[simp] theorem setEcRegs_remBits : (s.setEcRegs r).remBits = BitVec.ofNat 3 r.remBits := rfl
@[simp] theorem setEcRegs_side : (s.setEcRegs r).side = s.side := rfl
@[simp] theorem setEcRegs_maskSel : (s.setEcRegs r).maskSel = s.maskSel := rfl
@[simp] theorem setEcRegs_penvalid : (s.setEcRegs r).penvalid = s.penvalid := rfl
@[simp] theorem setEcRegs_fmtBits : (s.setEcRegs r).fmtBits = s.fmtBits := rfl
@[simp] theorem setEcRegs_verBits : (s.setEcRegs r).verBits = s.verBits := rfl
@[simp] theorem setEcRegs_pen : (s.setEcRegs r).pen = s.pen := rfl
@[simp] theorem setEcRegs_pd1 : (s.setEcRegs r).pd1 = s.pd1 := rfl
@[simp] theorem setEcRegs_pd2 : (s.setEcRegs r).pd2 = s.pd2 := rfl
@[simp] theorem setEcRegs_pd3 : (s.setEcRegs r).pd3 = s.pd3 := rfl
@[simp] theorem setEcRegs_pd4 : (s.setEcRegs r).pd4 = s.pd4 := rfl
@[simp] theorem setEcRegs_pendcmd : (s.setEcRegs r).pendcmd = s.pendcmd := rfl
@[simp] theorem setEcRegs_mem : (s.setEcRegs r).mem = s.mem := rfl
@[simp] theorem setEcRegs_mat : (s.setEcRegs r).mat = s.mat := rfl
@[simp] theorem setEcRegs_agenda : (s.setEcRegs r).agenda = s.agenda := rfl
@[simp] theorem setEcRegs_resp : (s.setEcRegs r).resp = s.resp := rfl
@[simp] theorem setEcRegs_epoch : (s.setEcRegs r).epoch = s.epoch := rfl
@[simp] theorem setEcRegs_draws : (s.setEcRegs r).draws = s.draws := rfl

end SetEcRegs

section SetCwv

variable (b : Bool)

@[simp] theorem setCwv_status : (s.setCwv b).status = { s.status with cwv := b } := rfl
@[simp] theorem setCwv_ie : (s.setCwv b).ie = s.ie := rfl
@[simp] theorem setCwv_cfg : (s.setCwv b).cfg = s.cfg := rfl
@[simp] theorem setCwv_dlen : (s.setCwv b).dlen = s.dlen := rfl
@[simp] theorem setCwv_gfA : (s.setCwv b).gfA = s.gfA := rfl
@[simp] theorem setCwv_gfB : (s.setCwv b).gfB = s.gfB := rfl
@[simp] theorem setCwv_gfRes : (s.setCwv b).gfRes = s.gfRes := rfl
@[simp] theorem setCwv_ntotal : (s.setCwv b).ntotal = s.ntotal := rfl
@[simp] theorem setCwv_ndata : (s.setCwv b).ndata = s.ndata := rfl
@[simp] theorem setCwv_blocks : (s.setCwv b).blocks = s.blocks := rfl
@[simp] theorem setCwv_remBits : (s.setCwv b).remBits = s.remBits := rfl
@[simp] theorem setCwv_side : (s.setCwv b).side = s.side := rfl
@[simp] theorem setCwv_maskSel : (s.setCwv b).maskSel = s.maskSel := rfl
@[simp] theorem setCwv_penvalid : (s.setCwv b).penvalid = s.penvalid := rfl
@[simp] theorem setCwv_fmtBits : (s.setCwv b).fmtBits = s.fmtBits := rfl
@[simp] theorem setCwv_verBits : (s.setCwv b).verBits = s.verBits := rfl
@[simp] theorem setCwv_pen : (s.setCwv b).pen = s.pen := rfl
@[simp] theorem setCwv_pd1 : (s.setCwv b).pd1 = s.pd1 := rfl
@[simp] theorem setCwv_pd2 : (s.setCwv b).pd2 = s.pd2 := rfl
@[simp] theorem setCwv_pd3 : (s.setCwv b).pd3 = s.pd3 := rfl
@[simp] theorem setCwv_pd4 : (s.setCwv b).pd4 = s.pd4 := rfl
@[simp] theorem setCwv_pendcmd : (s.setCwv b).pendcmd = s.pendcmd := rfl
@[simp] theorem setCwv_mem : (s.setCwv b).mem = s.mem := rfl
@[simp] theorem setCwv_mat : (s.setCwv b).mat = s.mat := rfl
@[simp] theorem setCwv_agenda : (s.setCwv b).agenda = s.agenda := rfl
@[simp] theorem setCwv_resp : (s.setCwv b).resp = s.resp := rfl
@[simp] theorem setCwv_epoch : (s.setCwv b).epoch = s.epoch := rfl
@[simp] theorem setCwv_draws : (s.setCwv b).draws = s.draws := rfl

end SetCwv

section SetMstage

variable (n : BitVec 3)

@[simp] theorem setMstage_status : (s.setMstage n).status = { s.status with mstage := n } := rfl
@[simp] theorem setMstage_ie : (s.setMstage n).ie = s.ie := rfl
@[simp] theorem setMstage_cfg : (s.setMstage n).cfg = s.cfg := rfl
@[simp] theorem setMstage_dlen : (s.setMstage n).dlen = s.dlen := rfl
@[simp] theorem setMstage_gfA : (s.setMstage n).gfA = s.gfA := rfl
@[simp] theorem setMstage_gfB : (s.setMstage n).gfB = s.gfB := rfl
@[simp] theorem setMstage_gfRes : (s.setMstage n).gfRes = s.gfRes := rfl
@[simp] theorem setMstage_ntotal : (s.setMstage n).ntotal = s.ntotal := rfl
@[simp] theorem setMstage_ndata : (s.setMstage n).ndata = s.ndata := rfl
@[simp] theorem setMstage_blocks : (s.setMstage n).blocks = s.blocks := rfl
@[simp] theorem setMstage_remBits : (s.setMstage n).remBits = s.remBits := rfl
@[simp] theorem setMstage_side : (s.setMstage n).side = s.side := rfl
@[simp] theorem setMstage_maskSel : (s.setMstage n).maskSel = s.maskSel := rfl
@[simp] theorem setMstage_penvalid : (s.setMstage n).penvalid = s.penvalid := rfl
@[simp] theorem setMstage_fmtBits : (s.setMstage n).fmtBits = s.fmtBits := rfl
@[simp] theorem setMstage_verBits : (s.setMstage n).verBits = s.verBits := rfl
@[simp] theorem setMstage_pen : (s.setMstage n).pen = s.pen := rfl
@[simp] theorem setMstage_pd1 : (s.setMstage n).pd1 = s.pd1 := rfl
@[simp] theorem setMstage_pd2 : (s.setMstage n).pd2 = s.pd2 := rfl
@[simp] theorem setMstage_pd3 : (s.setMstage n).pd3 = s.pd3 := rfl
@[simp] theorem setMstage_pd4 : (s.setMstage n).pd4 = s.pd4 := rfl
@[simp] theorem setMstage_pendcmd : (s.setMstage n).pendcmd = s.pendcmd := rfl
@[simp] theorem setMstage_mem : (s.setMstage n).mem = s.mem := rfl
@[simp] theorem setMstage_mat : (s.setMstage n).mat = s.mat := rfl
@[simp] theorem setMstage_agenda : (s.setMstage n).agenda = s.agenda := rfl
@[simp] theorem setMstage_resp : (s.setMstage n).resp = s.resp := rfl
@[simp] theorem setMstage_epoch : (s.setMstage n).epoch = s.epoch := rfl
@[simp] theorem setMstage_draws : (s.setMstage n).draws = s.draws := rfl

end SetMstage

section SetSelv

variable (b : Bool)

@[simp] theorem setSelv_status : (s.setSelv b).status = { s.status with selv := b } := rfl
@[simp] theorem setSelv_ie : (s.setSelv b).ie = s.ie := rfl
@[simp] theorem setSelv_cfg : (s.setSelv b).cfg = s.cfg := rfl
@[simp] theorem setSelv_dlen : (s.setSelv b).dlen = s.dlen := rfl
@[simp] theorem setSelv_gfA : (s.setSelv b).gfA = s.gfA := rfl
@[simp] theorem setSelv_gfB : (s.setSelv b).gfB = s.gfB := rfl
@[simp] theorem setSelv_gfRes : (s.setSelv b).gfRes = s.gfRes := rfl
@[simp] theorem setSelv_ntotal : (s.setSelv b).ntotal = s.ntotal := rfl
@[simp] theorem setSelv_ndata : (s.setSelv b).ndata = s.ndata := rfl
@[simp] theorem setSelv_blocks : (s.setSelv b).blocks = s.blocks := rfl
@[simp] theorem setSelv_remBits : (s.setSelv b).remBits = s.remBits := rfl
@[simp] theorem setSelv_side : (s.setSelv b).side = s.side := rfl
@[simp] theorem setSelv_maskSel : (s.setSelv b).maskSel = s.maskSel := rfl
@[simp] theorem setSelv_penvalid : (s.setSelv b).penvalid = s.penvalid := rfl
@[simp] theorem setSelv_fmtBits : (s.setSelv b).fmtBits = s.fmtBits := rfl
@[simp] theorem setSelv_verBits : (s.setSelv b).verBits = s.verBits := rfl
@[simp] theorem setSelv_pen : (s.setSelv b).pen = s.pen := rfl
@[simp] theorem setSelv_pd1 : (s.setSelv b).pd1 = s.pd1 := rfl
@[simp] theorem setSelv_pd2 : (s.setSelv b).pd2 = s.pd2 := rfl
@[simp] theorem setSelv_pd3 : (s.setSelv b).pd3 = s.pd3 := rfl
@[simp] theorem setSelv_pd4 : (s.setSelv b).pd4 = s.pd4 := rfl
@[simp] theorem setSelv_pendcmd : (s.setSelv b).pendcmd = s.pendcmd := rfl
@[simp] theorem setSelv_mem : (s.setSelv b).mem = s.mem := rfl
@[simp] theorem setSelv_mat : (s.setSelv b).mat = s.mat := rfl
@[simp] theorem setSelv_agenda : (s.setSelv b).agenda = s.agenda := rfl
@[simp] theorem setSelv_resp : (s.setSelv b).resp = s.resp := rfl
@[simp] theorem setSelv_epoch : (s.setSelv b).epoch = s.epoch := rfl
@[simp] theorem setSelv_draws : (s.setSelv b).draws = s.draws := rfl

end SetSelv

section SetDetail

variable (m : BitVec 3) (p : Penalty)

@[simp] theorem setDetail_status : (s.setDetail m p).status = s.status := rfl
@[simp] theorem setDetail_ie : (s.setDetail m p).ie = s.ie := rfl
@[simp] theorem setDetail_cfg : (s.setDetail m p).cfg = s.cfg := rfl
@[simp] theorem setDetail_dlen : (s.setDetail m p).dlen = s.dlen := rfl
@[simp] theorem setDetail_gfA : (s.setDetail m p).gfA = s.gfA := rfl
@[simp] theorem setDetail_gfB : (s.setDetail m p).gfB = s.gfB := rfl
@[simp] theorem setDetail_gfRes : (s.setDetail m p).gfRes = s.gfRes := rfl
@[simp] theorem setDetail_ntotal : (s.setDetail m p).ntotal = s.ntotal := rfl
@[simp] theorem setDetail_ndata : (s.setDetail m p).ndata = s.ndata := rfl
@[simp] theorem setDetail_blocks : (s.setDetail m p).blocks = s.blocks := rfl
@[simp] theorem setDetail_remBits : (s.setDetail m p).remBits = s.remBits := rfl
@[simp] theorem setDetail_side : (s.setDetail m p).side = s.side := rfl
@[simp] theorem setDetail_maskSel : (s.setDetail m p).maskSel = { s.maskSel with pdm := m } := rfl
@[simp] theorem setDetail_penvalid : (s.setDetail m p).penvalid = s.penvalid := rfl
@[simp] theorem setDetail_fmtBits : (s.setDetail m p).fmtBits = s.fmtBits := rfl
@[simp] theorem setDetail_verBits : (s.setDetail m p).verBits = s.verBits := rfl
@[simp] theorem setDetail_pen : (s.setDetail m p).pen = s.pen := rfl
@[simp] theorem setDetail_pd1 : (s.setDetail m p).pd1 = BitVec.ofNat 32 p.p1 := rfl
@[simp] theorem setDetail_pd2 : (s.setDetail m p).pd2 = BitVec.ofNat 32 p.p2 := rfl
@[simp] theorem setDetail_pd3 : (s.setDetail m p).pd3 = BitVec.ofNat 32 p.p3 := rfl
@[simp] theorem setDetail_pd4 : (s.setDetail m p).pd4 = BitVec.ofNat 32 p.p4 := rfl
@[simp] theorem setDetail_pendcmd : (s.setDetail m p).pendcmd = s.pendcmd := rfl
@[simp] theorem setDetail_mem : (s.setDetail m p).mem = s.mem := rfl
@[simp] theorem setDetail_mat : (s.setDetail m p).mat = s.mat := rfl
@[simp] theorem setDetail_agenda : (s.setDetail m p).agenda = s.agenda := rfl
@[simp] theorem setDetail_resp : (s.setDetail m p).resp = s.resp := rfl
@[simp] theorem setDetail_epoch : (s.setDetail m p).epoch = s.epoch := rfl
@[simp] theorem setDetail_draws : (s.setDetail m p).draws = s.draws := rfl

end SetDetail

section DropTurn

@[simp] theorem dropTurn_status : (s.dropTurn).status = s.status := rfl
@[simp] theorem dropTurn_ie : (s.dropTurn).ie = s.ie := rfl
@[simp] theorem dropTurn_cfg : (s.dropTurn).cfg = s.cfg := rfl
@[simp] theorem dropTurn_dlen : (s.dropTurn).dlen = s.dlen := rfl
@[simp] theorem dropTurn_gfA : (s.dropTurn).gfA = s.gfA := rfl
@[simp] theorem dropTurn_gfB : (s.dropTurn).gfB = s.gfB := rfl
@[simp] theorem dropTurn_gfRes : (s.dropTurn).gfRes = s.gfRes := rfl
@[simp] theorem dropTurn_ntotal : (s.dropTurn).ntotal = s.ntotal := rfl
@[simp] theorem dropTurn_ndata : (s.dropTurn).ndata = s.ndata := rfl
@[simp] theorem dropTurn_blocks : (s.dropTurn).blocks = s.blocks := rfl
@[simp] theorem dropTurn_remBits : (s.dropTurn).remBits = s.remBits := rfl
@[simp] theorem dropTurn_side : (s.dropTurn).side = s.side := rfl
@[simp] theorem dropTurn_maskSel : (s.dropTurn).maskSel = s.maskSel := rfl
@[simp] theorem dropTurn_penvalid : (s.dropTurn).penvalid = s.penvalid := rfl
@[simp] theorem dropTurn_fmtBits : (s.dropTurn).fmtBits = s.fmtBits := rfl
@[simp] theorem dropTurn_verBits : (s.dropTurn).verBits = s.verBits := rfl
@[simp] theorem dropTurn_pen : (s.dropTurn).pen = s.pen := rfl
@[simp] theorem dropTurn_pd1 : (s.dropTurn).pd1 = s.pd1 := rfl
@[simp] theorem dropTurn_pd2 : (s.dropTurn).pd2 = s.pd2 := rfl
@[simp] theorem dropTurn_pd3 : (s.dropTurn).pd3 = s.pd3 := rfl
@[simp] theorem dropTurn_pd4 : (s.dropTurn).pd4 = s.pd4 := rfl
@[simp] theorem dropTurn_pendcmd : (s.dropTurn).pendcmd = s.pendcmd := rfl
@[simp] theorem dropTurn_mem : (s.dropTurn).mem = s.mem := rfl
@[simp] theorem dropTurn_mat : (s.dropTurn).mat = s.mat := rfl
@[simp] theorem dropTurn_agenda : (s.dropTurn).agenda = s.agenda.tail := rfl
@[simp] theorem dropTurn_resp : (s.dropTurn).resp = s.resp := rfl
@[simp] theorem dropTurn_epoch : (s.dropTurn).epoch = s.epoch := rfl
@[simp] theorem dropTurn_draws : (s.dropTurn).draws = s.draws := rfl

end DropTurn

@[simp] theorem softReset_status : s.softReset.status = Status.zero := rfl
@[simp] theorem softReset_ie : s.softReset.ie = false := rfl
@[simp] theorem softReset_cfg : s.softReset.cfg = ⟨0, 0⟩ := rfl
@[simp] theorem softReset_dlen : s.softReset.dlen = 0 := rfl
@[simp] theorem softReset_gfA : s.softReset.gfA = 0 := rfl
@[simp] theorem softReset_gfB : s.softReset.gfB = 0 := rfl
@[simp] theorem softReset_gfRes : s.softReset.gfRes = 0 := rfl
@[simp] theorem softReset_ntotal : s.softReset.ntotal = 0 := rfl
@[simp] theorem softReset_ndata : s.softReset.ndata = 0 := rfl
@[simp] theorem softReset_blocks : s.softReset.blocks = 0 := rfl
@[simp] theorem softReset_remBits : s.softReset.remBits = 0 := rfl
@[simp] theorem softReset_side : s.softReset.side = 0 := rfl
@[simp] theorem softReset_maskSel : s.softReset.maskSel = ⟨0, 0, 0⟩ := rfl
@[simp] theorem softReset_penvalid : s.softReset.penvalid = 0 := rfl
@[simp] theorem softReset_fmtBits : s.softReset.fmtBits = 0 := rfl
@[simp] theorem softReset_verBits : s.softReset.verBits = 0 := rfl
@[simp] theorem softReset_pen : s.softReset.pen = Vector.replicate 8 0 := rfl
@[simp] theorem softReset_pd1 : s.softReset.pd1 = 0 := rfl
@[simp] theorem softReset_pd2 : s.softReset.pd2 = 0 := rfl
@[simp] theorem softReset_pd3 : s.softReset.pd3 = 0 := rfl
@[simp] theorem softReset_pd4 : s.softReset.pd4 = 0 := rfl
@[simp] theorem softReset_pendcmd : s.softReset.pendcmd = none := rfl
@[simp] theorem softReset_mem : s.softReset.mem = s.mem := rfl
@[simp] theorem softReset_mat : s.softReset.mat = s.mat := rfl
@[simp] theorem softReset_agenda : s.softReset.agenda = s.agenda := rfl
@[simp] theorem softReset_resp : s.softReset.resp = s.resp := rfl
@[simp] theorem softReset_epoch : s.softReset.epoch = s.epoch := rfl
@[simp] theorem softReset_draws : s.softReset.draws = s.draws := rfl

@[simp] theorem hardReset_status : s.hardReset.status = Status.zero := rfl
@[simp] theorem hardReset_ie : s.hardReset.ie = false := rfl
@[simp] theorem hardReset_cfg : s.hardReset.cfg = ⟨0, 0⟩ := rfl
@[simp] theorem hardReset_dlen : s.hardReset.dlen = 0 := rfl
@[simp] theorem hardReset_gfA : s.hardReset.gfA = 0 := rfl
@[simp] theorem hardReset_gfB : s.hardReset.gfB = 0 := rfl
@[simp] theorem hardReset_gfRes : s.hardReset.gfRes = 0 := rfl
@[simp] theorem hardReset_ntotal : s.hardReset.ntotal = 0 := rfl
@[simp] theorem hardReset_ndata : s.hardReset.ndata = 0 := rfl
@[simp] theorem hardReset_blocks : s.hardReset.blocks = 0 := rfl
@[simp] theorem hardReset_remBits : s.hardReset.remBits = 0 := rfl
@[simp] theorem hardReset_side : s.hardReset.side = 0 := rfl
@[simp] theorem hardReset_maskSel : s.hardReset.maskSel = ⟨0, 0, 0⟩ := rfl
@[simp] theorem hardReset_penvalid : s.hardReset.penvalid = 0 := rfl
@[simp] theorem hardReset_fmtBits : s.hardReset.fmtBits = 0 := rfl
@[simp] theorem hardReset_verBits : s.hardReset.verBits = 0 := rfl
@[simp] theorem hardReset_pen : s.hardReset.pen = Vector.replicate 8 0 := rfl
@[simp] theorem hardReset_pd1 : s.hardReset.pd1 = 0 := rfl
@[simp] theorem hardReset_pd2 : s.hardReset.pd2 = 0 := rfl
@[simp] theorem hardReset_pd3 : s.hardReset.pd3 = 0 := rfl
@[simp] theorem hardReset_pd4 : s.hardReset.pd4 = 0 := rfl
@[simp] theorem hardReset_pendcmd : s.hardReset.pendcmd = none := rfl
@[simp] theorem hardReset_mem : s.hardReset.mem = [] := rfl
@[simp] theorem hardReset_mat : s.hardReset.mat = powerOnMat (s.epoch + 1) := rfl
@[simp] theorem hardReset_agenda : s.hardReset.agenda = s.agenda := rfl
@[simp] theorem hardReset_resp : s.hardReset.resp = s.resp := rfl
@[simp] theorem hardReset_epoch : s.hardReset.epoch = s.epoch + 1 := rfl
@[simp] theorem hardReset_draws : s.hardReset.draws = s.draws := rfl

/-! What no register update changes is also what these read. -/

@[simp] theorem complete_busy (op : BitVec 8) : (s.complete op).busy = false := rfl
@[simp] theorem errorComplete_busy (op : BitVec 8) (e : CmdError) : (s.errorComplete op e).busy = false := rfl
@[simp] theorem issue_busy (w : Word) : (s.issue w).busy = true := rfl
@[simp] theorem complete_byteAt (op : BitVec 8) (a : Nat) : (s.complete op).byteAt a = s.byteAt a := rfl
@[simp] theorem errorComplete_byteAt (op : BitVec 8) (e : CmdError) (a : Nat) :
    (s.errorComplete op e).byteAt a = s.byteAt a := rfl
@[simp] theorem complete_memByte (op : BitVec 8) (a : Nat) : (s.complete op).memByte a = s.memByte a := rfl
@[simp] theorem errorComplete_memByte (op : BitVec 8) (e : CmdError) (a : Nat) :
    (s.errorComplete op e).memByte a = s.memByte a := rfl
@[simp] theorem complete_opV (op : BitVec 8) : (s.complete op).opV = s.opV := rfl
@[simp] theorem complete_opRow (op : BitVec 8) : (s.complete op).opRow = s.opRow := rfl
@[simp] theorem complete_memRead (op : BitVec 8) (b i n : Nat) :
    (s.complete op).memRead b i n = s.memRead b i n := rfl
@[simp] theorem complete_codewords (op : BitVec 8) : (s.complete op).codewords = s.codewords := rfl

end Sys2Proof.Machine
end

