-- ==== Sys2Proof/Laws/Step.lean ====
section
/-! SUPPORT. What one step can do, said once: the turns of `step`, the core's turn, and the two host
accesses with every effect an accepted write has. -/

namespace Sys2Proof.Machine

/-- Every way a step answers a next state. -/
theorem step_cases {s t : State} (h : step s = .next t) :
    (s.agenda = [] ∧ coreStep s = .next t) ∨
    (∃ ts, s.agenda = .core :: ts ∧ coreStep s.dropTurn = .next t) ∨
    (∃ a ts, s.agenda = .host a :: ts ∧ t = s.dropTurn.hostAccess a) ∨
    (∃ ts, s.agenda = .hardReset :: ts ∧ t = s.dropTurn.hardReset) := by
  unfold step at h
  split at h
  · exact .inl ⟨‹_›, h⟩
  · exact .inr (.inl ⟨_, ‹_›, h⟩)
  · exact .inr (.inr (.inl ⟨_, _, ‹_›, by simpa using h.symm⟩))
  · exact .inr (.inr (.inr ⟨_, ‹_›, by simpa using h.symm⟩))

/-- Every way the core's turn answers a next state. -/
theorem coreStep_cases {s t : State} (h : coreStep s = .next t) :
    (s.pendcmd = none ∧ t = s) ∨
    (∃ w e, s.pendcmd = some w ∧ decode w = .error e ∧ t = s.errorComplete (opField w) .badOp) ∨
    (∃ w i, s.pendcmd = some w ∧ decode w = .ok i ∧ exec i s = .next t) := by
  unfold coreStep State.fetch at h
  cases hp : s.pendcmd with
  | none => exact .inl ⟨rfl, by simpa [hp] using h.symm⟩
  | some w =>
    cases hd : decode w with
    | ok i => exact .inr (.inr ⟨w, i, rfl, hd, by simpa [hp, hd] using h⟩)
    | error e => exact .inr (.inl ⟨w, e, rfl, hd, by simpa [hp, hd] using h.symm⟩)

/-- A write is refused with a bus error, or has the effect of its location. -/
theorem hostWrite_cases (s : State) (a : Addr) (d : Word) :
    (∃ e, writeError s a = some e ∧ s.hostWrite a d = (s.busError e).respond 0 false) ∨
    (writeError s a = none ∧ s.hostWrite a d = (s.writeLoc (locOf a) d).respond 0 true) := by
  unfold State.hostWrite
  split
  · exact .inl ⟨_, ‹_›, rfl⟩
  · exact .inr ⟨‹_›, rfl⟩

/-- A write that no bus error refuses reaches one of eight kinds of location, and one that is locked
while BUSY = 1 only while BUSY = 0. -/
theorem writeLoc_cases {s : State} {a : Addr} (h : writeError s a = none) (d : Word) :
    (s.busy = false ∧ s.writeLoc (locOf a) d = s.issue d) ∨
    s.writeLoc (locOf a) d = s.writeStatus d ∨
    s.writeLoc (locOf a) d = s.writeCtrl d ∨
    (s.busy = false ∧ s.writeLoc (locOf a) d = s.writeCfg d) ∨
    (s.busy = false ∧ s.writeLoc (locOf a) d = s.writeDlen d) ∨
    (s.busy = false ∧ s.writeLoc (locOf a) d = { s with gfA := d.extractLsb' 0 8 }) ∨
    (s.busy = false ∧ s.writeLoc (locOf a) d = { s with gfB := d.extractLsb' 0 8 }) ∨
    (∃ x, s.busy = false ∧ locOf a = .buffer .data x ∧ s.writeLoc (locOf a) d = s.writeData x d) := by
  unfold writeError at h
  split at h
  · cases h
  · split at h
    · cases h
    · split at h
      · cases h
      · split at h
        · cases h
        · rename_i hu hr hb
          revert hu hr hb
          generalize locOf a = l
          intro hu hr hb
          cases l with
          | reg r => cases r <;> simp_all [Loc.readOnly, Loc.lockedWhileBusy, State.writeLoc]
          | buffer b x => cases b <;> simp_all [Loc.readOnly, Loc.lockedWhileBusy, State.writeLoc]
          | mat i => simp [Loc.readOnly] at hr
          | unmapped => exact absurd rfl hu

/-- A read fails with a bus error, or changes the response and the draw count only. -/
theorem hostRead_cases (s : State) (a : Addr) :
    (∃ e, readError a = some e ∧ s.hostRead a = (s.busError e).respond 0 false) ∨
    (readError a = none ∧ ∃ n,
      s.hostRead a = { s with resp := some ⟨s.readValue (locOf a), true⟩, draws := n }) := by
  unfold State.hostRead
  split
  · exact .inl ⟨_, ‹_›, rfl⟩
  · refine .inr ⟨‹_›, ?_⟩
    unfold State.countDraw State.respond
    split
    · exact ⟨s.draws, rfl⟩
    · exact ⟨s.draws + 1, rfl⟩

end Sys2Proof.Machine
end

