-- ==== Sys2Proof/Tests/Slice0.lean ====
section
/-! SUPPORT. Tests. Every expected value is the spec's own (95_test_vectors.md, or the rule named), not
the model's. The last sections are the witnesses: states and operands that meet the hypotheses of the
statements of Certificates/Slice0/Obligations.lean, the boundary values of each clause among them. -/

namespace Sys2Proof.Tests

open Sys2Proof.Machine

set_option maxRecDepth 100000
set_option Elab.async false

/-! ### Helpers -/

/-- The next state of an outcome, the reset state where there is none. -/
def after (o : Host.Outcome State Fault Refusal) : State :=
  match o with
  | .next t => t
  | .fault _ => State.reset
  | .refused _ => State.reset

/-- The state after a command. -/
def run (i : Instr) (s : State) : State := after (exec i s)

/-- Reset with a version and a level configured. -/
def withCfg (v : BitVec 6) (l : BitVec 2) : State := { State.reset with cfg := ⟨v, l⟩ }

/-- Reset with GF_A and GF_B loaded. -/
def withAB (a b : Byte) : State := { State.reset with gfA := a, gfB := b }

/-- Reset with bytes at the start of DATA_BUF. -/
def withData (v : BitVec 6) (l : BitVec 2) (n : BitVec 12) (d : List Byte) : State :=
  { withCfg v l with dlen := n, mem := Memory.entries dataBase d }

/-- Reset with a command word pending. -/
def pending (w : Word) : State := { State.reset with pendcmd := some w }

/-- A state at a stage with a cleared matrix; CWV, SELV and PENVALID as given. -/
def atStage (v : BitVec 6) (l : BitVec 2) (n : BitVec 3) (cwv selv : Bool) (pv : BitVec 8) : State :=
  { withCfg v l with
    mat := clearedMat
    side := BitVec.ofNat 8 (sideOf v.toNat)
    penvalid := pv
    status := { Status.zero with mstage := n, cwv := cwv, selv := selv } }

/-- DARK of the first `n` cells of a row, as drawn in 95_test_vectors.md: `#` is true. -/
def darkRow (s : State) (r n : Nat) : List Bool := (List.range n).map fun c => (Mat.cell s.mat r c).dark

/-- A drawn row. -/
def drawn (t : String) : List Bool := t.toList.map (· == '#')

/-! ### Well-formed words (30_encoding.md R71, R72): one ill-formed word for each check -/

/-- OP 0x44 is not one of the 16. -/
theorem test_wf_refuses_reserved_op : (CmdFields.mk 0x44 0 0 0 0).wellFormed = false := by decide

/-- Z = 1 on MSCORE. -/
theorem test_wf_refuses_z : (CmdFields.mk 0x40 0 1 0 0).wellFormed = false := by decide

/-- M = 1 on GFADD, which uses no M. -/
theorem test_wf_refuses_unused_m : (CmdFields.mk 0x10 1 0 0 0).wellFormed = false := by decide

/-- N = 1 on MINIT, which uses no N. -/
theorem test_wf_refuses_unused_n : (CmdFields.mk 0x30 0 0 1 0).wellFormed = false := by decide

/-- K = 1 on RSGEN, which uses N but no K. -/
theorem test_wf_refuses_unused_k : (CmdFields.mk 0x20 0 0 7 1).wellFormed = false := by decide

/-- MSCORE 7, RSGEN 255 and RSENC 0, 0 are well-formed words: a bad operand value is no encoding error. -/
theorem test_wf_accepts_used_fields :
    (CmdFields.mk 0x40 7 0 0 0).wellFormed = true ∧ (CmdFields.mk 0x20 0 0 255 0).wellFormed = true ∧
      (CmdFields.mk 0x21 0 0 0 0).wellFormed = true := by decide

/-! ### Decoding: words written out as K, N, Z, M, OP from the drawing of R68 and the table of R70 -/

theorem test_decode_nop :
    decode (0b00000000#8 ++ 0b00000000#8 ++ 0b00000#5 ++ 0b000#3 ++ 0b00000000#8) = .ok .nop := by decide
theorem test_decode_gfadd :
    decode (0b00000000#8 ++ 0b00000000#8 ++ 0b00000#5 ++ 0b000#3 ++ 0b00010000#8) = .ok .gfadd := by decide
theorem test_decode_gfmul :
    decode (0b00000000#8 ++ 0b00000000#8 ++ 0b00000#5 ++ 0b000#3 ++ 0b00010001#8) = .ok .gfmul := by decide
theorem test_decode_gfexp :
    decode (0b00000000#8 ++ 0b00000000#8 ++ 0b00000#5 ++ 0b000#3 ++ 0b00010010#8) = .ok .gfexp := by decide
theorem test_decode_gflog :
    decode (0b00000000#8 ++ 0b00000000#8 ++ 0b00000#5 ++ 0b000#3 ++ 0b00010011#8) = .ok .gflog := by decide
theorem test_decode_rsgen :
    decode (0b00000000#8 ++ 0b00011110#8 ++ 0b00000#5 ++ 0b000#3 ++ 0b00100000#8) = .ok (.rsgen 30) := by
  decide
theorem test_decode_rsenc :
    decode (0b11111110#8 ++ 0b00000001#8 ++ 0b00000#5 ++ 0b000#3 ++ 0b00100001#8) = .ok (.rsenc 1 254) := by
  decide
theorem test_decode_eccode :
    decode (0b00000000#8 ++ 0b00000000#8 ++ 0b00000#5 ++ 0b000#3 ++ 0b00100010#8) = .ok .eccode := by decide
theorem test_decode_minit :
    decode (0b00000000#8 ++ 0b00000000#8 ++ 0b00000#5 ++ 0b000#3 ++ 0b00110000#8) = .ok .minit := by decide
theorem test_decode_mfunc :
    decode (0b00000000#8 ++ 0b00000000#8 ++ 0b00000#5 ++ 0b000#3 ++ 0b00110001#8) = .ok .mfunc := by decide
theorem test_decode_mdata :
    decode (0b00000000#8 ++ 0b00000000#8 ++ 0b00000#5 ++ 0b000#3 ++ 0b00110010#8) = .ok .mdata := by decide
theorem test_decode_mscore :
    decode (0b00000000#8 ++ 0b00000000#8 ++ 0b00000#5 ++ 0b110#3 ++ 0b01000000#8) = .ok (.mscore 6) := by
  decide
theorem test_decode_meval :
    decode (0b00000000#8 ++ 0b00000000#8 ++ 0b00000#5 ++ 0b000#3 ++ 0b01000001#8) = .ok .meval := by decide
theorem test_decode_mapply :
    decode (0b00000000#8 ++ 0b00000000#8 ++ 0b00000#5 ++ 0b101#3 ++ 0b01000010#8) = .ok (.mapply 5) := by
  decide
theorem test_decode_mapsel :
    decode (0b00000000#8 ++ 0b00000000#8 ++ 0b00000#5 ++ 0b000#3 ++ 0b01000011#8) = .ok .mapsel := by decide
theorem test_decode_encode :
    decode (0b00000000#8 ++ 0b00000000#8 ++ 0b00000#5 ++ 0b000#3 ++ 0b01010000#8) = .ok .encode := by decide

/-- Reserved words are refused by name (R71, R72; vectors E2, E3, A15). -/
theorem test_decode_refuses :
    decode 0x00000044 = .error (.reservedOp 0x44) ∧ decode 0x00000840 = .error (.unusedFieldSet 0x40) ∧
      decode 0x00000110 = .error (.unusedFieldSet 0x10) ∧ decode 0x01070020 = .error (.unusedFieldSet 0x20) ∧
      decode 0x000000FF = .error (.reservedOp 0xFF) := by decide

/-- The words of the programs P2 and P4. -/
theorem test_encode_words :
    encode (.rsenc 13 13) = 0x0D0D0021 ∧ encode (.rsgen 13) = 0x000D0020 ∧
      encode (.mscore 2) = 0x00000240 ∧ encode .mapsel = 0x00000043 := by decide

/-- The assembler text of a command (R73). -/
theorem test_text : (Instr.rsenc 13 13).text = "RSENC 13, 13" ∧ (Instr.mscore 2).text = "MSCORE 2" := by
  decide

/-! ### Commands: at most two each -/

/-- E1. -/
theorem test_nop : (run .nop State.reset).statusWord = 0x00000002 := by decide

/-- A1. -/
theorem test_gfadd : (run .gfadd (withAB 0x57 0x83)).gfRes = 0xD4 := by decide

/-- A2. -/
theorem test_gfadd_self : (run .gfadd (withAB 0x5A 0x5A)).gfRes = 0x00 := by decide

/-- A3. -/
theorem test_gfmul : (run .gfmul (withAB 0x57 0x83)).gfRes = 0x31 := by decide

/-- A4 to A11. -/
theorem test_gfmul_more :
    [(0x02, 0x80, 0x1D), (0xFF, 0xFF, 0xE2), (0x53, 0x8C, 0x01), (0x80, 0x80, 0x13), (0x00, 0x37, 0x00),
      (0x01, 0xA5, 0xA5), (0x1D, 0x1D, 0x4C), (0x8E, 0x02, 0x01)].all
        (fun (x : Byte × Byte × Byte) => (run .gfmul (withAB x.1 x.2.1)).gfRes == x.2.2) = true := by
  decide

/-- A12. -/
theorem test_gfexp :
    [(0, 0x01), (1, 0x02), (7, 0x80), (8, 0x1D), (9, 0x3A), (25, 0x03), (100, 0x11), (200, 0x1C),
      (254, 0x8E), (255, 0x01)].all
        (fun (x : Byte × Byte) => (run .gfexp (withAB x.1 0)).gfRes == x.2) = true := by decide

/-- A13. -/
theorem test_gflog :
    [(0x01, 0), (0x02, 1), (0x03, 25), (0x1D, 8), (0x8E, 254), (0xFF, 175), (0x80, 7)].all
      (fun (x : Byte × Byte) => (run .gflog (withAB x.1 0)).gfRes == x.2) = true := by decide

/-- A14, with the STATUS of program P1. -/
theorem test_gflog_zero :
    (run .gflog { withAB 0 0x83 with gfRes := 0x03 }).gfRes = 0x03 ∧
      (run .gflog { withAB 0 0x83 with gfRes := 0x03 }).statusWord = 0x13003006 := by decide

/-- B3: the generator polynomial of degree 7, and zeros after it. -/
theorem test_rsgen :
    (run (.rsgen 7) State.reset).memRead genBase 0 10 =
      [0x01, 0x7F, 0x7A, 0x9A, 0xA4, 0x0B, 0x44, 0x75, 0x00, 0x00] := by decide +kernel

/-- B7. -/
theorem test_rsgen_badarg :
    (run (.rsgen 0) State.reset).status.ecode = 3 ∧ (run (.rsgen 255) State.reset).status.ecode = 3 ∧
      (run (.rsgen 255) State.reset).mem = [] := by decide

/-- The data of B11. -/
def helloData : List Byte :=
  [0x20, 0x5B, 0x0B, 0x78, 0xD1, 0x72, 0xDC, 0x4D, 0x43, 0x40, 0xEC, 0x11, 0xEC]

/-- B11, and the STATUS of program P2. -/
theorem test_rsenc :
    (run (.rsenc 13 13) (withData 0 0 0 helloData)).memRead eccBase 0 14 =
      [0xA8, 0x48, 0x16, 0x52, 0xD9, 0x36, 0x9C, 0x00, 0x2E, 0x0F, 0xB4, 0x7A, 0x10, 0x00] ∧
    (run (.rsenc 13 13) (withData 0 0 0 helloData)).statusWord = 0x21000002 := by decide +kernel

/-- B13, and B12's limit K + N = 255. -/
theorem test_rsenc_badarg :
    (run (.rsenc 2 254) State.reset).status.ecode = 3 ∧ (run (.rsenc 0 5) State.reset).status.ecode = 3 ∧
      (run (.rsenc 5 0) State.reset).status.ecode = 3 ∧ rsEncArgBad 1 254 = false := by decide

/-- The data of B14: 00 01 .. 3D. -/
def countData : List Byte := (List.range 62).map (BitVec.ofNat 8)

/-- B14. Its BLOCKS word is 0x12020F02 by 10_state.md R26 (NB1 2, ND1 15, NB2 2, NEC 18; DEDUCED, log entry 11). -/
theorem test_eccode :
    let t := run .eccode (withData 5 2 62 countData)
    t.memRead cwBase 0 8 = [0x00, 0x0F, 0x1E, 0x2E, 0x01, 0x10, 0x1F, 0x2F] ∧
      t.memRead cwBase 56 10 = [0x0E, 0x1D, 0x2C, 0x3C, 0x2D, 0x3D, 0x82, 0x55, 0x12, 0x44] ∧
      t.memRead cwBase 130 5 = [0x67, 0x9A, 0x8A, 0x13, 0x00] ∧
      t.ntotal = 134 ∧ t.remBits = 7 ∧ t.blocks = 0x12020F02 := by decide +kernel

/-- E6 and B17. -/
theorem test_eccode_errors :
    (run .eccode (withCfg 1 0)).statusWord = 0x22005006 ∧ (run .eccode State.reset).status.ecode = 2 := by
  decide

/-- F1: SIDE, MSTAGE and the window; S1: SIDE(40) = 177. -/
theorem test_minit :
    (run .minit (withCfg 1 0)).side = 21 ∧ (run .minit (withCfg 1 0)).status.mstage = 1 ∧
      (run .minit (withCfg 40 3)).side = 177 ∧
      (run .minit (withCfg 1 0)).matByte 31328 = 0 ∧ (run .minit (withCfg 1 0)).matByte 0 = 0 := by
  decide +kernel

/-- F2. -/
theorem test_minit_badcfg :
    (run .minit (withCfg 41 0)).status.ecode = 2 ∧ (run .minit (withCfg 41 0)).status.mstage = 0 := by decide

/-- F4 and E15. -/
theorem test_mfunc :
    let t := run .mfunc (run .minit (withCfg 1 0))
    [(0, 0, 0x07), (1, 1, 0x06), (8, 8, 0x04), (13, 8, 0x07), (6, 8, 0x07), (6, 9, 0x06), (20, 20, 0x00)].all
        (fun (x : Nat × Nat × Byte) => (Mat.cell t.mat x.1 x.2.1).toByte == x.2.2) = true ∧
      t.readLoc (locOf 0x80B0) = 0x06060700 := by decide +kernel

/-- E4 (BADCFG before SEQ) and E5. -/
theorem test_mfunc_errors :
    (run .mfunc State.reset).statusWord = 0x31002006 ∧ (run .mfunc (withCfg 1 0)).statusWord = 0x31004006 := by
  decide

/-- The data of program P4. -/
def isoData : List Byte :=
  [0x10, 0x20, 0x0C, 0x56, 0x61, 0x80, 0xEC, 0x11, 0xEC, 0x11, 0xEC, 0x11, 0xEC, 0x11, 0xEC, 0x11]

/-- Program P4 up to MDATA. -/
def isoPlaced : State := run .mdata (run .mfunc (run .minit (run .eccode (withData 1 1 16 isoData))))

/-- F8, and the STATUS of program P4 after MDATA. Cells (20, 16) to (20, 19) are bytes 3556 to 3559. -/
theorem test_mdata :
    isoPlaced.readLoc (.mat 3556) = 0x02020203 ∧ isoPlaced.matByte (8 * 177) = 0x04 ∧
      isoPlaced.statusWord = 0x32000072 := by decide +kernel

/-- F9. -/
theorem test_mdata_seq : (run .mdata (atStage 1 0 2 false false 0)).status.ecode = 4 := by decide

/-- M15. -/
theorem test_mscore : isoPlaced.penaltyOf 2 = ⟨206, 111, 720, 0⟩ := by decide +kernel

/-- M15: what MSCORE 2 does with those scores, said with a state that has no matrix to score. -/
theorem test_mscore_registers :
    let t := (atStage 1 1 3 true false 0).setDetail 2 ⟨206, 111, 720, 0⟩
    t.pd1 = 206 ∧ t.pd2 = 111 ∧ t.pd3 = 720 ∧ t.pd4 = 0 ∧ t.maskSel.pdm = 2 := by decide

/-- The totals of program P4 select mask 2, and the smallest mask wins a tie (R121). -/
theorem test_meval_select :
    selectMask (fun m => [1057, 1093, 1037, 1052, 1130, 1197, 1099, 1046].getD m.toNat 0) = 2 ∧
      selectMask (fun m => [9, 7, 5, 7, 5, 5, 9, 9].getD m.toNat 0) = 2 := by decide

/-- M16. -/
theorem test_meval_seq : (run .meval (atStage 1 0 4 true true 0xFF)).statusWord = 0x41004196 := by decide

/-- M18, with fmtbits(M, 5). -/
theorem test_mapply :
    let t := run (.mapply 5) { isoPlaced with maskSel := ⟨2, 0, 2⟩ }
    t.maskSel = ⟨2, 5, 2⟩ ∧ t.fmtBits = fmtbits 1 5 ∧ t.verBits = 0 ∧ t.status.mstage = 4 := by
  decide +kernel

/-- The top rows of program P4's symbol: MAPPLY 2 gives them. -/
theorem test_mapply_symbol :
    let t := run (.mapply 2) isoPlaced
    darkRow t 0 21 = drawn "#######..#.##.#######" ∧ darkRow t 8 21 = drawn "#.#####..#..#.#####.." ∧
      darkRow t 20 21 = drawn "#######.####.#..#.#.." := by decide +kernel

/-- P4: MAPSEL applies the mask in SEL. -/
theorem test_mapsel :
    let t := run .mapsel { (atStage 1 1 3 true true 0xFF) with maskSel := ⟨2, 0, 2⟩ }
    t.maskSel = ⟨2, 2, 2⟩ ∧ t.fmtBits = 0x5E7C ∧ t.statusWord = 0x43000192 := by decide +kernel

/-- M17. -/
theorem test_mapsel_seq : (run .mapsel (atStage 1 0 3 true false 0)).status.ecode = 4 := by decide

/-- The data of program P3. -/
def emptyData : List Byte :=
  [0x40, 0x00, 0xEC, 0x11, 0xEC, 0x11, 0xEC, 0x11, 0xEC, 0x11, 0xEC, 0x11, 0xEC, 0x11, 0xEC, 0x11, 0xEC, 0x11,
    0xEC]

/-- Program P3: STATUS, SIDE, PENVALID and the codewords. (The penalties and the mask it selects are costly
for the kernel: test_mscore, test_meval_select and test_mapply_symbol test those parts.) -/
theorem test_encode :
    let t := run .encode (withData 1 0 19 emptyData)
    t.statusWord = 0x50000192 ∧ t.side = 21 ∧ t.penvalid = 0xFF ∧
      t.memRead cwBase 17 10 = [0x11, 0xEC, 0xF9, 0xAA, 0x03, 0xCB, 0x06, 0xE3, 0xD2, 0x00] := by decide +kernel

/-- ENCODE checks BADCFG before LEN, and neither changes the stage (60_exceptions.md R135, R136). -/
theorem test_encode_errors :
    (run .encode State.reset).statusWord = 0x50002006 ∧ (run .encode (withCfg 1 0)).statusWord = 0x50005006 := by
  decide

/-! ### Masks, information and penalties -/

/-- M1. -/
theorem test_mask_bits :
    (allMasks.map fun m => maskBit m 1 2) = drawn "...##.#." ∧
      (allMasks.map fun m => maskBit m 2 3) = drawn ".##.###." ∧
      (allMasks.map fun m => maskBit m 3 5) = drawn "#...#..#" ∧
      (allMasks.map fun m => maskBit m 4 6) = drawn "###.####" ∧
      (allMasks.map fun m => maskBit m 5 7) = drawn "#..##..#" := by decide

/-- M2 and M3. -/
theorem test_information :
    fmtbits 0 0 = 0x77C4 ∧ fmtbits 0 7 = 0x6976 ∧ fmtbits 1 7 = 0x4AA0 ∧ fmtbits 2 0 = 0x355F ∧
      fmtbits 3 7 = 0x083B ∧ verbits 7 = 0x07C94 ∧ verbits 20 = 0x149A6 ∧ verbits 40 = 0x28C69 := by decide

/-- M8: a grid all light but for the pattern at the start of row 10. -/
def patternGrid : List (List Bool) :=
  (List.replicate 21 (List.replicate 21 false)).set 10 (drawn "#.###.#" ++ List.replicate 14 false)

/-- M8 and M7. -/
theorem test_penalty_grids :
    gridPenalty 21 patternGrid = ⟨776, 1158, 40, 90⟩ ∧
      gridPenalty 21 ((List.range 21).map fun i => List.replicate 21 (i % 2 == 1)) = ⟨399, 0, 0, 0⟩ := by
  decide +kernel

/-! ### Bus, interrupt, reset and step -/

/-- E2: a core step with an undefined OP pending. -/
theorem test_step_badop : (after (step (pending 0x00000044))).statusWord = 0x44001006 := by decide

/-- The first step after a fetch word is placed runs it. -/
theorem test_step_runs_fetch_word :
    (after (step (State.reset.withFetchWord 32 0x00000010))).statusWord = 0x10000002 := by decide

/-- E7 to E9, E11: the codes of failed accesses. -/
theorem test_bus_errors :
    (State.reset.hostWrite 0x0016 0).status.bcode = 2 ∧ (State.reset.hostWrite 0x004C 0).status.bcode = 1 ∧
      (State.reset.hostWrite 0x0024 1).status.bcode = 3 ∧ (State.reset.hostRead 0x0080).resp = some ⟨0, false⟩ ∧
      (State.reset.hostRead 0x0080).status.bcode = 1 := by decide

/-- E10, and BCODE keeps the first code (P5). -/
theorem test_bus_busy_write :
    let t := (pending 0).hostWrite 0x0014 0x00000002
    t.cfg = ⟨0, 0⟩ ∧ t.status.bcode = 4 ∧ (t.hostWrite 0x0016 0).status.bcode = 4 := by decide

/-- E12, from the last states of P5. -/
theorem test_ack :
    let t := { (pending 0).errorComplete 0x44 .badOp with cfg := ⟨1, 0⟩ }
    (t.hostWrite 0x004C 0).statusWord = 0x4401100E ∧
      ((t.hostWrite 0x004C 0).hostWrite 0x000C 0x0000000E).statusWord = 0x44000000 := by decide

/-- P2: DATA_BUF words are little-endian, and a read gives the word back. -/
theorem test_data_buf_lanes :
    (State.reset.hostWrite 0x1000 0x780B5B20).memRead dataBase 0 4 = [0x20, 0x5B, 0x0B, 0x78] ∧
      ((State.reset.hostWrite 0x1000 0x780B5B20).hostWrite 0x1004 0x4DDC72D1).readLoc (locOf 0x1000) =
        0x780B5B20 := by decide

/-- `setcfg 1, 1` and `wrbuf` expand to the writes of P4 and P2 (30_encoding.md R74). -/
theorem test_host_program :
    setcfgTurns 1 1 = [wr 0x0014 0x00000101] ∧
      wrbufTurns 0 helloData =
        [wr 0x1000 0x780B5B20, wr 0x1004 0x4DDC72D1, wr 0x1008 0x11EC4043, wr 0x100C 0x000000EC] := by
  decide

/-- E13. -/
theorem test_irq :
    let t := run .nop (State.reset.hostWrite 0x0010 1)
    t.irq = true ∧ (t.hostWrite 0x000C 0x0E).irq = false := by decide

/-- E14. -/
theorem test_soft_reset :
    let t := { pending 0x50 with mem := [(0x1000, 7)], ie := true, gfA := 5 }.hostWrite 0x0010 2
    t.busy = false ∧ t.ie = false ∧ t.gfA = 0 ∧ t.mem = [(0x1000, 7)] := by decide

/-- Hardware reset while a command is pending (70_reset_and_hazards.md R147). -/
theorem test_hard_reset :
    let t := after (step { pending 0x50 with gfA := 5, agenda := [.hardReset, .core] })
    t.busy = false ∧ t.gfA = 0 ∧ t.agenda = [.core] := by decide

/-- The constants of 10_state.md R19, and the registers that the address map of R18 gives. -/
theorem test_address_map :
    State.reset.readLoc (locOf 0x0000) = 0x51525345 ∧ State.reset.readLoc (locOf 0x0004) = 0x00000001 ∧
      locOf 0x0040 = .reg .penvalid ∧ locOf 0x0050 = .reg (.pen 0) ∧ locOf 0x007C = .reg .pd4 ∧
      locOf 0x1FFC = .buffer .data 0x1FFC ∧ locOf 0x21FC = .buffer .gen 0x21FC ∧
      locOf 0x3000 = .buffer .cw 0x3000 ∧ locOf 0xFFFC = .mat 0x7FFC := by decide

/-- P4: the words of CFG, BLOCKS, MASKSEL and FMTBITS on the bus. -/
theorem test_register_reads :
    let s := { withCfg 1 1 with maskSel := ⟨2, 0, 2⟩, blocks := 0x0A001001, fmtBits := 0x5E7C }
    s.readLoc (locOf 0x0014) = 0x00000101 ∧ s.readLoc (locOf 0x003C) = 0x00020002 ∧
      s.readLoc (locOf 0x0030) = 0x0A001001 ∧ s.readLoc (locOf 0x0044) = 0x00005E7C := by decide

/-! ### Witnesses: words and pending commands -/

/-- Of EveryWordOneCommandOrBadOp and IllFormedWordCompletesWithBadOp: ill-formed words, pending with no
turn left and with the core's turn next. -/
theorem witness_ill_formed_pending :
    [0x00000044, 0x00000840, 0x00000110, 0x00010000, 0x01000020].all
      (fun (w : Word) => decide ((CmdFields.ofWord w).wellFormed = false ∧ (pending w).pendcmd = some w ∧
        (pending w).agenda = [] ∧ ∀ r ∈ opcodeTable, w &&& r.mask ≠ r.fixedBits)) = true ∧
      { pending 0x44 with agenda := [.core] }.agenda = Turn.core :: [] := by decide +kernel

/-- Of EveryWordOneCommandOrBadOp: words that rows match. -/
theorem witness_matched_words :
    [0x00000000, 0xFFFF0021, 0x00FF0020, 0x00000740].all
      (fun (w : Word) => decide (∃ r ∈ opcodeTable, w &&& r.mask = r.fixedBits)) = true := by decide +kernel

/-- Of StepRunsDecodedCommand: a pending command, with no turn left and with the core's turn next. -/
theorem witness_decoded_pending :
    (pending 0x00000340).pendcmd = some 0x00000340 ∧ decode 0x00000340 = .ok (.mscore 3) ∧
      (Instr.mscore 3).wellFormed = true ∧ (pending 0x00000340).agenda = [] ∧
      { pending 0x00000340 with agenda := [.core, .core] }.agenda = Turn.core :: [.core] := by decide

/-- Of DecodeAgreesWithFields. -/
theorem witness_decodes : decode 0xFFFF0021 = .ok (.rsenc 255 255) := by decide

/-- Of HostResetAndIdleTurns: a turn of each kind, and none. -/
theorem witness_turns :
    { State.reset with agenda := [.host (.read 0)] }.agenda = Turn.host (.read 0) :: [] ∧
      { State.reset with agenda := [.hardReset] }.agenda = Turn.hardReset :: [] ∧
      { State.reset with agenda := [.core] }.agenda = Turn.core :: [] ∧
      State.reset.pendcmd = none ∧ State.reset.agenda = [] := by decide

/-- Of the RaisesBadOp clauses of the results: for each command the lowest and the highest bit that raises
BADOP. -/
theorem witness_bad_bits :
    [(0x00, 0x100, 0xFFFFFF00), (0x10, 0x80000000, 0xFFFFFF00), (0x11, 0x100, 0xFFFFFF00),
      (0x12, 0x80000000, 0xFFFFFF00), (0x13, 0x100, 0xFFFFFF00), (0x20, 0x100, 0xFF00FF00),
      (0x20, 0x80000000, 0xFF00FF00), (0x21, 0x100, 0x0000FF00), (0x21, 0x8000, 0x0000FF00),
      (0x22, 0x100, 0xFFFFFF00), (0x30, 0x80000000, 0xFFFFFF00), (0x31, 0x100, 0xFFFFFF00),
      (0x32, 0x80000000, 0xFFFFFF00), (0x40, 0x800, 0xFFFFF800), (0x40, 0x80000000, 0xFFFFF800),
      (0x41, 0x100, 0xFFFFFF00), (0x42, 0x800, 0xFFFFF800), (0x43, 0x80000000, 0xFFFFFF00),
      (0x50, 0x100, 0xFFFFFF00)].all
        (fun (x : BitVec 8 × Word × Word) => decide (opField (x.1.setWidth 32 ||| x.2.1) = x.1 ∧
          (x.1.setWidth 32 ||| x.2.1) &&& x.2.2 ≠ 0)) = true := by decide +kernel

/-! ### Witnesses: commands -/

/-- Of CommandRunsExactlyWhenAllowed, InterruptLine, CommandsChangeOnlyTheirWriteSet and
FinalMatrixImmutable: a command that answers a next state, the last at stage 4. -/
theorem witness_exec :
    (∃ t, exec .nop State.reset = .next t) ∧ Memory.Wf State.reset.mem ∧
      locOf 0x0014 ≠ .reg .status ∧ inWriteSet (Instr.op .nop) (locOf 0x0014) = false ∧
      (0x0014 : Addr).toNat % 4 = 0 ∧ locOf 0xFFFC ≠ .reg .status ∧
      inWriteSet (Instr.op .encode) (locOf 0xFFFC) = false ∧ (0xFFFC : Addr).toNat % 4 = 0 ∧
      (atStage 1 0 4 true true 0xFF).status.mstage = 4 ∧
      (∃ t, exec .eccode (atStage 1 0 4 true true 0xFF) = .next t) :=
  ⟨⟨_, rfl⟩, by decide, by decide, by decide, by decide, by decide, by decide, by decide, by decide, ⟨_, rfl⟩⟩

/-- Of StagePreconditions and of the error clauses of the results: illegal versions, and legal ones with
the stage, CWV or SELV wrong. -/
theorem witness_errors :
    ¬ (withCfg 0 0).VersionLegal ∧ ¬ (withCfg 41 0).VersionLegal ∧ ¬ (withCfg 63 3).VersionLegal ∧
      (withCfg 1 0).VersionLegal ∧ (withCfg 40 3).VersionLegal ∧
      (withCfg 1 0).status.mstage ≠ 1 ∧ (withCfg 1 0).status.mstage ≠ 3 ∧
      (atStage 1 0 2 false false 0).status.cwv = false ∧ (atStage 1 0 3 true false 0).status.selv = false ∧
      ¬ (withCfg 1 0).LenRight ∧ ¬ (withData 40 3 1277 []).LenRight := by decide

/-- Of StagePreconditions: a command without a precondition and its next state. -/
theorem witness_no_precondition : ∃ t, exec .minit (withCfg 1 0) = .next t := ⟨_, rfl⟩

/-- Of GflogResult. -/
theorem witness_gflog : (withAB 0 0).gfA = 0 ∧ (withAB 0xFF 0).gfA ≠ 0 := by decide

/-- Of GfTablesGenerated and FieldLaws: an entry before the last, and a non-zero element. -/
theorem witness_field : 253 < 254 ∧ 254 < 255 ∧ (0xFF : Byte) ≠ 0 := by decide

/-- Of RsgenResult, GeneratorPolynomialRoots and CodewordPolynomialHasTheRoots: N at both ends. -/
theorem witness_rsgen :
    Memory.Wf State.reset.mem ∧ 1 ≤ (1 : BitVec 8).toNat ∧ (254 : BitVec 8).toNat ≤ 254 ∧
      ((0 : BitVec 8) = 0 ∨ (0 : BitVec 8) = 255) ∧ ((255 : BitVec 8) = 0 ∨ (255 : BitVec 8) = 255) := by
  decide

/-- Of RsencResult: N and K at their ends. -/
theorem witness_rsenc :
    Memory.Wf (withData 0 0 0 helloData).mem ∧
      [(1, 254), (254, 1), (13, 13)].all
        (fun (x : BitVec 8 × BitVec 8) => decide (1 ≤ x.1.toNat ∧ x.1.toNat ≤ 254 ∧ 1 ≤ x.2.toNat ∧
          x.2.toNat + x.1.toNat ≤ 255)) = true ∧
      [(0, 5), (255, 1), (5, 0), (2, 254)].all
        (fun (x : BitVec 8 × BitVec 8) => decide (x.1.toNat < 1 ∨ x.1.toNat > 254 ∨ x.2.toNat < 1 ∨
          x.2.toNat + x.1.toNat > 255)) = true := by decide +kernel

/-- Of EcCodewordsLinear: two blocks of one length. -/
theorem witness_blocks : ([0x01, 0x02] : List Byte).length = ([0xFF, 0x00] : List Byte).length := by decide

/-- Of FinalSequenceSound: the smallest and the largest symbol. -/
theorem witness_streams :
    (List.replicate 19 (0 : Byte)).length = (blockRow 1 0).ndata ∧
      (List.replicate 1276 (0 : Byte)).length = (blockRow 40 3).ndata := by decide +kernel

/-- Of FinalSequenceSound: in version 5, level Q, the first and the last block, the last data column, which
only the second group has, and the last EC column. -/
theorem witness_columns :
    0 < blockLen (blockRow 5 2) 0 ∧ 14 < blockLen (blockRow 5 2) 0 ∧ ¬ 15 < blockLen (blockRow 5 2) 1 ∧
      15 < blockLen (blockRow 5 2) 2 ∧ 3 < (blockRow 5 2).nb1 + (blockRow 5 2).nb2 ∧
      15 < blockLen (blockRow 5 2) 3 ∧ blockStart (blockRow 5 2) 3 + 15 = 61 ∧ 17 < (blockRow 5 2).nec := by
  decide +kernel

/-- Of EccodeResult, EncodeEqualsStepwise, EncodeFinishesTheSymbol and EncodeIsPure: versions 1 and 40
with DLEN = NDATA; and two states that agree on CFG, DLEN and the data and differ elsewhere. -/
theorem witness_encode :
    (Memory.Wf (withData 1 1 16 isoData).mem ∧ (withData 1 1 16 isoData).VersionLegal ∧
      (withData 1 1 16 isoData).LenRight) ∧
    ((withData 40 3 1276 []).VersionLegal ∧ (withData 40 3 1276 []).LenRight ∧
      Memory.Wf (withData 40 3 1276 []).mem) ∧
    Memory.Wf { withData 1 1 16 isoData with gfA := 9, mat := clearedMat }.mem ∧
    { withData 1 1 16 isoData with gfA := 9, mat := clearedMat }.cfg = (withData 1 1 16 isoData).cfg ∧
    { withData 1 1 16 isoData with gfA := 9, mat := clearedMat }.dlen = (withData 1 1 16 isoData).dlen ∧
    { withData 1 1 16 isoData with gfA := 9, mat := clearedMat }.memRead dataBase 0 16 =
      (withData 1 1 16 isoData).memRead dataBase 0 16 ∧ (withData 1 1 16 isoData).opRow.ndata = 16 := by
  decide +kernel

/-- A cleared matrix has its shape. -/
theorem witness_mat_wf : Mat.Wf clearedMat := by decide +kernel

/-- Of the results of MINIT to MAPSEL: a legal version, the stage, CWV, SELV, at both ends of the
versions; the matrix is `clearedMat`. -/
theorem witness_stages :
    ∀ v ∈ [(1 : BitVec 6), 6, 7, 40],
      (atStage v 1 1 false false 0).VersionLegal ∧ (atStage v 1 1 false false 0).status.mstage = 1 ∧
      (atStage v 1 2 true false 0).VersionLegal ∧ (atStage v 1 2 true false 0).status.mstage = 2 ∧
      (atStage v 1 2 true false 0).status.cwv = true ∧
      (atStage v 1 3 true true 0xFF).VersionLegal ∧ (atStage v 1 3 true true 0xFF).status.mstage = 3 ∧
      (atStage v 1 3 true true 0xFF).status.selv = true := by decide

/-- Of MfuncResult, MdataResult, MapplyResult and PenaltyBounds: the matrix of those states. -/
theorem witness_stage_mat (v : BitVec 6) (n : BitVec 3) : Mat.Wf (atStage v 1 n true true 0xFF).mat :=
  witness_mat_wf

/-- Of the same: a covered and an uncovered cell, a data cell in the order Z(S), the first and the last
information cells, below and from version 7. -/
theorem witness_cells :
    ((6, 8), MCell.function true) ∈ timingCells 21 ∧ (8, 8) ∈ reservedCells 1 ∧
      ((functionWrites 1).all fun w => w.1 != (20, 20)) = true ∧
      (dataCells clearedMat 21)[0]? = some (20, 20) ∧ (dataOrder 1)[0]? = some (20, 20) ∧
      (20, 20) ∉ reservedCells 1 ∧ (4, 6) ∉ dataCells clearedMat 21 ∧
      fc1[0]? = some (0, 8) ∧ (fc2 21)[14]? = some (20, 8) ∧ (atStage 7 1 3 true true 0).opV ≥ 7 ∧
      (vc1 45)[0]? = some (0, 34) ∧ (vc2 45)[17]? = some (36, 5) := by decide +kernel

/-- Of ZigzagVisitsEachCellOnce, DataCellCount, InfoTablesAgree and PenaltyBounds: versions 1, 7, 40, and
the levels at both ends. -/
theorem witness_versions : 1 ≤ 1 ∧ 1 ≤ 40 ∧ 40 ≤ 40 ∧ 7 ≤ 7 ∧ 7 ≤ 40 ∧ 0 < 4 ∧ 3 < 4 := by decide

/-- Of PenaltyBounds: the colour grid of the candidate of a cleared matrix. -/
theorem witness_colour_grid :
    ∃ g : Nat → Nat → Bool, ∀ i j, g i j = (Mat.cell (candidate clearedMat 1 0 0) i j).dark :=
  ⟨_, fun _ _ => rfl⟩

/-! ### Witnesses: the bus -/

/-- Of FailedAccesses: misaligned addresses, and the ends of each unmapped range. -/
theorem witness_failed_accesses :
    [0x0001, 0x0016, 0x004D, 0xFFFF].all (fun (a : Addr) => decide (a.toNat % 4 ≠ 0)) = true ∧
      [0x004C, 0x0080, 0x0FFC, 0x2200, 0x2FFC, 0x4000, 0x7FFC].all
        (fun (a : Addr) => decide (UnmappedAddr a)) = true := by decide +kernel

/-- Of RefusedWrites: the ends of each read-only and locked range, while BUSY = 1. -/
theorem witness_refused_writes :
    [0x0000, 0x0004, 0x0024, 0x0048, 0x0050, 0x007C, 0x2000, 0x21FC, 0x3000, 0x3FFC, 0x8000, 0xFFFC].all
        (fun (a : Addr) => decide (ReadOnlyAddr a)) = true ∧
      [0x0008, 0x0014, 0x0018, 0x001C, 0x0020, 0x1000, 0x1FFC].all
        (fun (a : Addr) => decide (LockedAddr a)) = true ∧
      (pending 0).busy = true := by decide +kernel

/-- No aligned address falls under two clauses of FailedAccesses and RefusedWrites. -/
theorem witness_clauses_disjoint (a : Addr) :
    ¬ (UnmappedAddr a ∧ ReadOnlyAddr a) ∧ ¬ (UnmappedAddr a ∧ LockedAddr a) ∧
      ¬ (ReadOnlyAddr a ∧ LockedAddr a) ∧ (a = 0x000C ∨ a = 0x0010 → ¬ ReadOnlyAddr a ∧ ¬ LockedAddr a) := by
  refine ⟨by omega, by omega, by omega, ?_⟩
  rintro (rfl | rfl) <;> decide

/-- Of CfgWriteInvalidates, OperandWrites, IssueCommand, DataBufWriteReadBack, InterruptLine,
SoftResetKeepsBuffers and RegisterReadMap. -/
theorem witness_writes :
    State.reset.busy = false ∧ State.reset.status.berr = false ∧ (pending 0x50).busy = true ∧
      (0 : Word).getLsbD 1 = false ∧ (2 : Word).getLsbD 1 = true ∧ Memory.Wf State.reset.mem ∧
      [0x1000, 0x1FFC].all
        (fun (a : Addr) => decide (a.toNat % 4 = 0 ∧ 0x1000 ≤ a.toNat ∧ a.toNat < 0x2000)) = true := by decide +kernel

/-- Of HardwareResetValues. -/
theorem witness_reset (s : State) :
    (State.reset = State.reset ∨ ∃ s : State, State.reset = s.hardReset) ∧
      (s.hardReset = State.reset ∨ ∃ s' : State, s.hardReset = s'.hardReset) :=
  ⟨.inl rfl, .inr ⟨s, rfl⟩⟩

/-- Of ReadsChangeNothingAndAreExact: mapped addresses at the edges, a location outside the write set of
the pending word, and STATUS. -/
theorem witness_reads :
    [0x0000, 0x000C, 0x0048, 0x0050, 0x007C, 0x1000, 0x21FC, 0x3000, 0x3FFC, 0x8000, 0xFFFC].all
        (fun (a : Addr) => decide (a.toNat % 4 = 0 ∧ ¬ UnmappedAddr a)) = true ∧
      (pending 0x22).pendcmd = some 0x22 ∧ locOf 0x1000 ≠ .reg .status ∧
      inWriteSet (opField 0x22) (locOf 0x1000) = false ∧ locOf 0x000C = .reg .status ∧
      State.reset.busy = false := by decide +kernel

/-- Of the clauses of ReadsChangeNothingAndAreExact on buffers and MAT: the ends of the ranges, the last
cell, and the first byte past it. -/
theorem witness_read_bytes :
    [0x1000, 0x21FC, 0x3000, 0x3FFC, 0x8000, 0xFFFC].all
        (fun (a : Addr) => decide (a.toNat % 4 = 0 ∧ ((0x1000 ≤ a.toNat ∧ a.toNat < 0x2200) ∨
          (0x3000 ≤ a.toNat ∧ a.toNat < 0x4000) ∨ 0x8000 ≤ a.toNat))) = true ∧
      0 < 177 ∧ 176 < 177 ∧ 0x8000 + 176 * 177 + 176 < 0x8000 + 31329 := by decide +kernel

/-! ### Witnesses: the invariants -/

/-- A state in canonical form with a pending MFUNC at stage 1, and the step it takes. -/
def beforeMfunc : State := { atStage 7 1 1 false false 0 with pendcmd := some 0x31 }

/-- Of every StepKeeps statement: the step. -/
theorem witness_step : ∃ t, step beforeMfunc = .next t := ⟨_, rfl⟩

/-- Of StepKeepsCanonicalForm. -/
theorem witness_canonical : beforeMfunc.Wf := ⟨by decide, witness_mat_wf⟩

/-- Of StepKeepsCodesAndFlags: the state before MFUNC, and one with both errors reported. -/
theorem witness_codes :
    beforeMfunc.LegalCodes ∧ beforeMfunc.FlagsAgree ∧
      ((State.reset.errorComplete 0x22 .len).busError .busyWrite).LegalCodes ∧
      ((State.reset.errorComplete 0x22 .len).busError .busyWrite).FlagsAgree := by decide

/-- Of StepKeepsStages: the state before MFUNC, and the last stage with all penalties valid. -/
theorem witness_stages_agree :
    beforeMfunc.StagesAgree ∧ (atStage 40 3 4 true true 0xFF).StagesAgree := by decide

/-- Every cell of a cleared matrix is unset. -/
theorem cell_clearedMat (r c : Nat) : Mat.cell clearedMat r c = MCell.unset := by
  simp only [Mat.cell, clearedMat, List.getD_eq_getElem?_getD, List.getElem?_replicate]
  split
  · simp only [Option.getD_some, List.getElem?_replicate]
    split <;> rfl
  · rfl

/-- Of StepKeepsMatrixAsStage, stage 1. -/
theorem witness_matrix : beforeMfunc.OutsideUnset ∧ beforeMfunc.MatrixAsStage := by
  refine ⟨fun _ r c _ => cell_clearedMat r c, fun _ r c => cell_clearedMat r c, ?_, ?_, ?_, ?_⟩ <;>
    intro h <;> exact absurd h (by decide)

/-- The clauses of MatrixAsStage at stages 3 and 4, cell by cell, as a check that can be evaluated. -/
def stageOk (s : State) : Bool :=
  (List.range s.opSide).all fun r => (List.range s.opSide).all fun c =>
    ((Mat.cell s.mat r c).func == (functionWrites s.opV).any fun w => w.1 == (r, c)) &&
      ((Mat.cell s.mat r c).set || (s.status.mstage == 3 && (reservedCells s.opV).contains (r, c)))

theorem matrixAsStage_of_stageOk {s : State} (hs : s.status.mstage = 3 ∨ s.status.mstage = 4)
    (h : stageOk s = true) : s.MatrixAsStage := by
  have hc : ∀ r c, r < s.opSide → c < s.opSide →
      ((Mat.cell s.mat r c).func = (functionWrites s.opV).any fun w => w.1 == (r, c)) ∧
        ((Mat.cell s.mat r c).set = true ∨ s.status.mstage = 3 ∧ (r, c) ∈ reservedCells s.opV) := by
    intro r c hr hc
    have h' := List.all_eq_true.mp (List.all_eq_true.mp h r (List.mem_range.mpr hr)) c (List.mem_range.mpr hc)
    simpa using h'
  have hset : ∀ r c, r < s.opSide → c < s.opSide → (r, c) ∉ reservedCells s.opV →
      (Mat.cell s.mat r c).set = true := fun r c hr hc' hn =>
    (hc r c hr hc').2.resolve_right fun h => hn h.2
  refine ⟨fun h1 => ?_, fun _ r c hr hc' => ⟨?_, fun _ => hset r c hr hc'⟩, fun h2 => ?_,
    fun _ => hset, fun h4 r c hr hc' => (hc r c hr hc').2.resolve_right fun h3 => ?_⟩
  · rcases hs with hs | hs <;> rw [hs] at h1 <;> exact absurd h1 (by decide)
  · rw [(hc r c hr hc').1]
    simp [List.any_eq_true]
  · rcases hs with hs | hs <;> rw [hs] at h2 <;> exact absurd h2 (by decide)
  · rw [h4] at h3
    exact absurd h3.1 (by decide)

/-- A finished symbol: MAPPLY 2 on program P4's matrix. -/
def isoFinished : State := run (.mapply 2) isoPlaced

theorem isoPlaced_ok : stageOk isoPlaced = true := by decide +kernel
theorem isoFinished_ok : stageOk isoFinished = true := by decide +kernel

/-- Of MapplyResult and of StepKeepsMatrixAsStage, stage 3. -/
theorem witness_matrix_placed : isoPlaced.MatrixAsStage ∧ isoPlaced.VersionLegal ∧ isoPlaced.status.mstage = 3 :=
  have h : isoPlaced.status.mstage = 3 := by decide +kernel
  ⟨matrixAsStage_of_stageOk (.inl h) isoPlaced_ok, by decide +kernel, h⟩

/-- Of MapplyResult: the matrix has its shape there too. -/
theorem witness_mat_placed : Mat.Wf isoPlaced.mat := by decide +kernel

/-- Of StepKeepsMatrixAsStage, stage 4. -/
theorem witness_matrix_finished : isoFinished.MatrixAsStage :=
  matrixAsStage_of_stageOk (.inr (by decide +kernel)) isoFinished_ok

/-- Of StepKeepsCwvTrue: program P4 after ECCODE, where CWV = 1 and CW_BUF holds the codewords. -/
def isoCoded : State := run .eccode (withData 1 1 16 isoData)

/-- The final codewords of program P4, and that CWV is set. -/
theorem isoCoded_codewords :
    isoCoded.status.cwv = true ∧ isoCoded.codewords =
      [0x10, 0x20, 0x0C, 0x56, 0x61, 0x80, 0xEC, 0x11, 0xEC, 0x11, 0xEC, 0x11, 0xEC, 0x11, 0xEC, 0x11, 0xA5, 0x24,
        0xD4, 0xC1, 0xED, 0x36, 0xC7, 0x87, 0x2C, 0x55] := by decide +kernel

/-- Of StepKeepsCwvTrue. -/
theorem witness_cwv_true : isoCoded.CwvTrue := fun _ =>
  ⟨by decide +kernel, by decide +kernel, by decide +kernel, by decide +kernel, by decide +kernel,
    by decide +kernel, by decide +kernel⟩

/-- Of StepKeepsCwvTrue: the canonical form holds there too, and the machine idles. -/
theorem witness_cwv_wf : isoCoded.Wf ∧ ∃ t, step isoCoded = .next t := by
  have hm : isoCoded.mat = powerOnMat 0 := rfl
  refine ⟨⟨?_, by simp [hm, powerOnMat, maxSide], ?_⟩, ⟨_, rfl⟩⟩
  · have h : Memory.Wf (withData 1 1 16 isoData).mem := by decide +kernel
    have hl : (withData 1 1 16 isoData).codewords.length ≤ cwBufSize := by decide +kernel
    exact fillBuffer_wf h cwBase cwBufSize _ hl fun x h1 h2 => by
      simp only [cwBase, cwBufSize] at h1 h2
      simp [inBuffers, cwBase, cwBufSize, h1, h2]
  · intro row hr
    simp only [hm, powerOnMat, List.mem_map] at hr
    obtain ⟨r, -, rfl⟩ := hr
    simp [maxSide]

end Sys2Proof.Tests
end

section
/-! SUPPORT. What a command does when it runs, said once for all sixteen, and the step induction: a
predicate that every part of a step keeps is kept by every step. -/

namespace Sys2Proof.Machine

/-- What a command does after its checks and before `complete()`. -/
def runBody (i : Instr) (s : State) : State :=
  match i with
  | .nop => s
  | .gfadd => s.setGfRes (s.opA ^^^ s.opB)
  | .gfmul => s.setGfRes (gfmul s.opA s.opB)
  | .gfexp => s.setGfRes (gfExp (s.opA.toNat % 255))
  | .gflog => s.setGfRes (BitVec.ofNat 8 (gfLog s.opA))
  | .rsgen n => s.fillBuffer genBase genBufSize (genpoly n.toNat)
  | .rsenc n k => s.fillBuffer eccBase eccBufSize (rsrem (s.memRead dataBase 0 k.toNat) n.toNat)
  | .eccode => s.eccodeBody
  | .minit => s.minitBody
  | .mfunc => s.mfuncBody
  | .mdata => s.mdataBody
  | .mscore m => s.mscoreBody m
  | .meval => s.mevalBody
  | .mapply m => s.mapplyBody m
  | .mapsel => s.applySelected
  | .encode => s.encodeBody

/-! ### The matrix and the stage after each body that sets them -/

@[simp] theorem minitBody_mat (s : State) :
    s.minitBody.mat = List.replicate maxSide (List.replicate maxSide MCell.unset) := by
  rw [State.minitBody]
@[simp] theorem mapplyBody_mat (s : State) (m : BitVec 3) :
    (s.mapplyBody m).mat = candidate s.mat s.opV s.cfg.level m := by
  rw [State.mapplyBody, setMstage_mat]
@[simp] theorem mfuncBody_mat (s : State) : s.mfuncBody.mat = Mat.setAll s.mat (functionWrites s.opV) := by
  rw [State.mfuncBody, setMstage_mat]
@[simp] theorem mdataBody_mat (s : State) :
    s.mdataBody.mat = placeData s.mat s.opSide (s.memRead cwBase 0 s.opRow.ntotal) := by
  rw [State.mdataBody, setMstage_mat]

@[simp] theorem minitBody_mstage (s : State) : s.minitBody.status.mstage = 1 := rfl
@[simp] theorem mfuncBody_mstage (s : State) : s.mfuncBody.status.mstage = 2 := rfl
@[simp] theorem mdataBody_mstage (s : State) : s.mdataBody.status.mstage = 3 := rfl
@[simp] theorem mapplyBody_mstage (s : State) (m : BitVec 3) : (s.mapplyBody m).status.mstage = 4 := rfl
@[simp] theorem applySelected_mstage (s : State) : s.applySelected.status.mstage = 4 := rfl
@[simp] theorem encodeBody_mstage (s : State) : s.encodeBody.status.mstage = 4 := rfl

/-! ### Running and failing -/

section Checks

variable {c d : Bool} {x y z : Host.Outcome State Fault Refusal}

/-- With its checks passed a command answers its own effect. -/
theorem checks_pass (hc : c = false) (hd : d = false) :
    (if c then x else if d then y else z) = z := by simp [hc, hd]

/-- A failed check answers an error completion. -/
theorem check_fails {s : State} {op : BitVec 8} {e : CmdError} (hc : ¬ c = false) :
    ∃ r, (if c then .next (s.errorComplete op e) else z) = .next (s.errorComplete op r) :=
  ⟨e, if_pos (by simpa using hc)⟩

/-- With one of two checks failed the first that fails decides the error. -/
theorem checks_fail {s : State} {op : BitVec 8} {e e' : CmdError} (h : ¬ (c = false ∧ d = false)) :
    ∃ r, (if c then .next (s.errorComplete op e) else if d then .next (s.errorComplete op e') else z) =
      .next (s.errorComplete op r) := by
  cases c with
  | true => exact ⟨e, rfl⟩
  | false => exact check_fails (c := d) fun hd => h ⟨rfl, hd⟩

end Checks

/-- A command whose condition holds has its effect and completes. -/
theorem exec_of_runs {i : Instr} {s : State} (h : Runs i s) :
    exec i s = .next ((runBody i s).complete i.op) := by
  cases i with
  | nop | gfadd | gfmul | gfexp => rfl
  | gflog => exact if_neg h
  | rsgen n => exact if_neg (by simp [(rsGenArgBad_eq_false _).2 h])
  | rsenc n k => exact if_neg (by simp [(rsEncArgBad_eq_false _ _).2 h])
  | minit => exact if_neg (by simp [(cfgIllegal_eq_false s).2 h])
  | eccode | encode => exact checks_pass ((cfgIllegal_eq_false s).2 h.1) ((lenWrong_eq_false s).2 h.2)
  | mfunc => exact checks_pass ((cfgIllegal_eq_false s).2 h.1) ((seqMfunc_eq_false s).2 h.2)
  | mdata => exact checks_pass ((cfgIllegal_eq_false s).2 h.1) ((seqMdata_eq_false s).2 h.2)
  | mscore _ | meval | mapply _ =>
    exact checks_pass ((cfgIllegal_eq_false s).2 h.1) ((seqPlaced_eq_false s).2 h.2)
  | mapsel => exact checks_pass ((cfgIllegal_eq_false s).2 h.1) ((seqMapsel_eq_false s).2 h.2)

/-- A command whose condition fails completes with an error. -/
theorem exec_of_not_runs {i : Instr} {s : State} (h : ¬ Runs i s) :
    ∃ e, exec i s = .next (s.errorComplete i.op e) := by
  cases i with
  | nop | gfadd | gfmul | gfexp => exact absurd trivial h
  | gflog => exact ⟨.badArg, if_pos (Classical.not_not.1 h)⟩
  | rsgen n => exact check_fails (mt (rsGenArgBad_eq_false _).1 h)
  | rsenc n k => exact check_fails (mt (rsEncArgBad_eq_false _ _).1 h)
  | minit => exact check_fails (mt (cfgIllegal_eq_false s).1 h)
  | eccode | encode =>
    exact checks_fail (mt (And.imp (cfgIllegal_eq_false s).1 (lenWrong_eq_false s).1) h)
  | mfunc => exact checks_fail (mt (And.imp (cfgIllegal_eq_false s).1 (seqMfunc_eq_false s).1) h)
  | mdata => exact checks_fail (mt (And.imp (cfgIllegal_eq_false s).1 (seqMdata_eq_false s).1) h)
  | mscore _ | meval | mapply _ =>
    exact checks_fail (mt (And.imp (cfgIllegal_eq_false s).1 (seqPlaced_eq_false s).1) h)
  | mapsel => exact checks_fail (mt (And.imp (cfgIllegal_eq_false s).1 (seqMapsel_eq_false s).1) h)

/-- Every way a command answers a next state: its effect and the completion when its condition holds, an
error completion when it does not. -/
theorem exec_cases {i : Instr} {s t : State} (h : exec i s = .next t) :
    (Runs i s ∧ t = (runBody i s).complete i.op) ∨ (¬ Runs i s ∧ ∃ e, t = s.errorComplete i.op e) := by
  by_cases hr : Runs i s
  · rw [exec_of_runs hr] at h
    exact .inl ⟨hr, (Host.Outcome.next.inj h).symm⟩
  · obtain ⟨e, he⟩ := exec_of_not_runs hr
    rw [he] at h
    exact .inr ⟨hr, e, (Host.Outcome.next.inj h).symm⟩


/-- The alignment check of R48 is divisibility by 4. -/
theorem misaligned_eq_false (a : Addr) : misaligned a = false ↔ a.toNat % 4 = 0 := by
  have h : (a.extractLsb' 0 2).toNat = a.toNat % 4 := by simp [BitVec.extractLsb'_toNat]
  rw [misaligned, bne_eq_false_iff_eq, ← BitVec.toNat_inj, h]
  rfl

/-- No register offset is a buffer word. -/
theorem regAt_ne_buffer (n : Nat) (b : Buffer) (x : Nat) : regAt n ≠ .buffer b x := by
  unfold regAt
  split <;> simp

/-- A DATA_BUF location is an address of DATA_BUF. -/
theorem locOf_eq_data {a : Addr} {x : Nat} (h : locOf a = .buffer .data x) :
    x = a.toNat ∧ 0x1000 ≤ x ∧ x < 0x2000 := by
  simp only [locOf] at h
  split_ifs at h with h1 h2 h3
  · exact absurd h (regAt_ne_buffer _ _ _)
  · cases h
    omega
  all_goals cases h

/-- An access that no bus error refuses is aligned. -/
theorem aligned_of_writeError {s : State} {a : Addr} (h : writeError s a = none) : a.toNat % 4 = 0 := by
  rw [← misaligned_eq_false, ← Bool.not_eq_true]
  intro hm
  simp [writeError, hm] at h

/-- The four bytes of a word that an accepted DATA_BUF write reaches lie in DATA_BUF. -/
theorem data_word_in_buffer {s : State} {a : Addr} {x : Nat} (h : writeError s a = none)
    (hx : locOf a = .buffer .data x) : dataBase ≤ x ∧ x + 4 ≤ dataBase + dataBufSize := by
  obtain ⟨rfl, h1, h2⟩ := locOf_eq_data hx
  have := aligned_of_writeError h
  simp only [dataBase, dataBufSize]
  omega

/-! ### The body of ENCODE, command by command (R131) -/

/-- ENCODE is the six bodies one after another, each run where its condition holds. -/
theorem encode_chain {P : State → Prop}
    (hb : ∀ i s, i ≠ .encode → Runs i s → P s → P (runBody i s)) {s : State} (hr : Runs .encode s)
    (h : P s) : P (runBody .encode s) := by
  obtain ⟨hv, hl⟩ := hr
  have h1 : P s.eccodeBody := hb .eccode s (by simp) ⟨hv, hl⟩ h
  have h2 : P s.eccodeBody.minitBody := hb .minit _ (by simp) hv h1
  have h3 : P s.eccodeBody.minitBody.mfuncBody := hb .mfunc _ (by simp) ⟨hv, rfl⟩ h2
  have h4 : P s.eccodeBody.minitBody.mfuncBody.mdataBody := hb .mdata _ (by simp) ⟨hv, rfl, rfl⟩ h3
  have h5 : P s.eccodeBody.minitBody.mfuncBody.mdataBody.mevalBody := hb .meval _ (by simp) ⟨hv, rfl⟩ h4
  exact hb .mapsel _ (by simp) ⟨hv, rfl, rfl⟩ h5

/-! ### The step induction -/

/-- The parts of a step, each said to keep P: a command's body where its condition holds and the two
completions (R127, R128, R136), what a host access can do (R48 to R57), and the hardware reset (R147). -/
structure KeptByParts (P : State → Prop) : Prop where
  /-- The fields of the model's own hold nothing P speaks of. -/
  own : ∀ s a r n, P s → P { s with agenda := a, resp := r, draws := n }
  complete : ∀ s op, P s → P (s.complete op)
  errorComplete : ∀ s op e, P s → P (s.errorComplete op e)
  body : ∀ i s, i ≠ .encode → Runs i s → P s → P (runBody i s)
  busError : ∀ s e, P s → P (s.busError e)
  issue : ∀ s w, s.busy = false → P s → P (s.issue w)
  writeStatus : ∀ s d, P s → P (s.writeStatus d)
  softReset : ∀ s, P s → P s.softReset
  setIe : ∀ s b, P s → P { s with ie := b }
  writeCfg : ∀ s d, P s → P (s.writeCfg d)
  writeDlen : ∀ s d, P s → P (s.writeDlen d)
  setGfA : ∀ s v, P s → P { s with gfA := v }
  setGfB : ∀ s v, P s → P { s with gfB := v }
  writeData : ∀ s x d, dataBase ≤ x → x + 4 ≤ dataBase + dataBufSize → P s → P (s.writeData x d)
  hardReset : ∀ s, P s → P s.hardReset

section Induction

variable {P : State → Prop} (k : KeptByParts P)
include k

theorem KeptByParts.respond {s : State} (d : Word) (ok : Bool) (h : P s) : P (s.respond d ok) :=
  k.own s s.agenda _ s.draws h

theorem KeptByParts.exec {i : Instr} {s t : State} (h : P s) (ht : exec i s = .next t) : P t := by
  obtain ⟨hr, rfl⟩ | ⟨-, e, rfl⟩ := exec_cases ht
  · refine k.complete _ _ ?_
    by_cases hi : i = .encode
    · subst hi
      exact encode_chain k.body hr h
    · exact k.body i s hi hr h
  · exact k.errorComplete _ _ _ h

theorem KeptByParts.coreStep {s t : State} (h : P s) (ht : coreStep s = .next t) : P t := by
  obtain ⟨-, rfl⟩ | ⟨w, e, -, -, rfl⟩ | ⟨w, i, -, -, hi⟩ := coreStep_cases ht
  · exact h
  · exact k.errorComplete _ _ _ h
  · exact k.exec h hi

theorem KeptByParts.writeCtrl {s : State} (d : Word) (h : P s) : P (s.writeCtrl d) := by
  unfold State.writeCtrl
  split
  · exact k.softReset s h
  · exact k.setIe s _ h

theorem KeptByParts.hostWrite {s : State} (a : Addr) (d : Word) (h : P s) : P (s.hostWrite a d) := by
  obtain ⟨e, -, he⟩ | ⟨hn, he⟩ := hostWrite_cases s a d
  · rw [he]
    exact k.respond _ _ (k.busError s e h)
  · rw [he]
    refine k.respond _ _ ?_
    obtain ⟨hb, hl⟩ | hl | hl | ⟨-, hl⟩ | ⟨-, hl⟩ | ⟨-, hl⟩ | ⟨-, hl⟩ | ⟨x, -, hx, hl⟩ :=
      writeLoc_cases hn d <;> rw [hl]
    · exact k.issue s d hb h
    · exact k.writeStatus s d h
    · exact k.writeCtrl d h
    · exact k.writeCfg s d h
    · exact k.writeDlen s d h
    · exact k.setGfA s _ h
    · exact k.setGfB s _ h
    · obtain ⟨h1, h2⟩ := data_word_in_buffer hn hx
      exact k.writeData s x d h1 h2 h

theorem KeptByParts.hostRead {s : State} (a : Addr) (h : P s) : P (s.hostRead a) := by
  obtain ⟨e, -, he⟩ | ⟨-, n, he⟩ := hostRead_cases s a
  · rw [he]
    exact k.respond _ _ (k.busError s e h)
  · rw [he]
    exact k.own s s.agenda _ n h

/-- The step induction: what every part keeps, every step keeps. -/
theorem KeptByParts.step {s t : State} (h : P s) (ht : step s = .next t) : P t := by
  have hd : P s.dropTurn := k.own s _ s.resp s.draws h
  obtain ⟨-, hc⟩ | ⟨-, -, hc⟩ | ⟨a, -, -, rfl⟩ | ⟨-, -, rfl⟩ := step_cases ht
  · exact k.coreStep h hc
  · exact k.coreStep hd hc
  · cases a with
    | write a d => exact k.hostWrite a d hd
    | read a => exact k.hostRead a hd
  · exact k.hardReset _ hd

end Induction

end Sys2Proof.Machine
end

section
/-! SUPPORT. The codes and flags of STATUS, and the stage with what hangs on it, under every part of a
step: O55 and O56. -/

namespace Sys2Proof.Machine

/-! ### Codes and flags -/

theorem CmdError.code_legal (e : CmdError) : e.code ≠ 0 ∧ e.code.toNat ≤ 5 := by
  cases e <;> decide

theorem BusError.code_legal (e : BusError) : e.code ≠ 0 ∧ e.code.toNat ≤ 4 := by
  cases e <;> decide

/-- No body changes DONE, the error flags with their codes, or PENDCMD. -/
theorem runBody_flagsAgree (i : Instr) (s : State) : (runBody i s).FlagsAgree ↔ s.FlagsAgree := by
  cases i <;> exact Iff.rfl

/-- The stages that bodies set are 1 to 4; the codes stay. -/
theorem runBody_legalCodes (i : Instr) {s : State} (h : s.LegalCodes) : (runBody i s).LegalCodes := by
  cases i with
  | minit | mfunc | mdata | mapply | mapsel | encode => exact ⟨by simp [runBody], h.2⟩
  | nop | gfadd | gfmul | gfexp | gflog | rsgen | rsenc | eccode | mscore | meval => exact h

/-- A bus error keeps the first code, and has one of its own where there was none. -/
theorem busError_codesAndFlags {s : State} (e : BusError) (h : s.LegalCodes) (hf : s.FlagsAgree) :
    (s.busError e).LegalCodes ∧ (s.busError e).FlagsAgree := by
  obtain ⟨h1, h2, h3⟩ := h
  obtain ⟨f1, f2, f3⟩ := hf
  obtain ⟨e1, e2⟩ := e.code_legal
  cases hb : s.status.berr with
  | true => exact ⟨⟨h1, h2, by simpa [hb] using h3⟩, f1, by simpa [hb] using f2, f3⟩
  | false => exact ⟨⟨h1, h2, by simpa [hb] using e2⟩, f1, by simpa [hb] using e1, f3⟩

/-- Acknowledging clears a flag together with its code. -/
theorem writeStatus_codesAndFlags {s : State} (d : Word) (h : s.LegalCodes) (hf : s.FlagsAgree) :
    (s.writeStatus d).LegalCodes ∧ (s.writeStatus d).FlagsAgree := by
  obtain ⟨h1, h2, h3⟩ := h
  obtain ⟨f1, f2, f3⟩ := hf
  unfold State.writeStatus
  generalize d.getLsbD 1 = b1
  generalize d.getLsbD 2 = b2
  generalize d.getLsbD 3 = b3
  refine ⟨⟨h1, ?_, ?_⟩, ?_, ?_, fun hb => ?_⟩
  · cases b2 <;> simp [h2]
  · cases b3 <;> simp [h3]
  · cases b2 with
    | false => simpa using f1
    | true => simp
  · cases b3 with
    | false => simpa using f2
    | true => simp
  · obtain ⟨g1, g2, g3⟩ := f3 hb
    simp [g1, g2, g3]

theorem reset_codesAndFlags : State.reset.LegalCodes ∧ State.reset.FlagsAgree := by decide

theorem codesAndFlags_kept : KeptByParts fun s => s.LegalCodes ∧ s.FlagsAgree where
  own _ _ _ _ h := h
  complete s op h := ⟨⟨h.1.1, by simp, h.1.2.2⟩, by simp, h.2.2.1, by simp⟩
  errorComplete s op e h := by
    obtain ⟨⟨h1, -, h3⟩, -, f2, -⟩ := h
    obtain ⟨e1, e2⟩ := e.code_legal
    exact ⟨⟨h1, e2, h3⟩, by simpa using e1, f2, by simp⟩
  body i s _ _ h := ⟨runBody_legalCodes i h.1, (runBody_flagsAgree i s).2 h.2⟩
  busError _ e h := busError_codesAndFlags e h.1 h.2
  issue s w _ h := ⟨⟨h.1.1, by simp, h.1.2.2⟩, by simp, h.2.2.1, by simp⟩
  writeStatus _ d h := writeStatus_codesAndFlags d h.1 h.2
  softReset _ _ := reset_codesAndFlags
  setIe _ _ h := h
  writeCfg _ _ h := ⟨⟨Nat.zero_le 4, h.1.2⟩, h.2⟩
  writeDlen _ _ h := h
  setGfA _ _ h := h
  setGfB _ _ h := h
  writeData _ _ _ _ _ h := h
  hardReset _ _ := reset_codesAndFlags

/-- Settles O55: every part of a step keeps codes and flags. -/
theorem stepKeepsCodesAndFlags : Obligations.StepKeepsCodesAndFlags := fun _ _ hl hf ht =>
  codesAndFlags_kept.step ⟨hl, hf⟩ ht

/-! ### Stages -/

/-- A legal version's side fits SIDE's eight bits. -/
theorem side_toNat {s : State} (h : s.VersionLegal) : (BitVec.ofNat 8 s.opSide).toNat = s.opSide := by
  rw [BitVec.toNat_ofNat, Nat.mod_eq_of_lt]
  simp only [State.opSide, sideOf]
  omega

theorem runBody_stagesAgree {i : Instr} {s : State} (hi : i ≠ .encode) (hr : Runs i s)
    (h : s.StagesAgree) : (runBody i s).StagesAgree := by
  obtain ⟨h1, h2, h3⟩ := h
  cases i with
  | nop | gfadd | gfmul | gfexp | gflog | rsgen | rsenc | eccode => exact ⟨h1, h2, h3⟩
  | minit => exact ⟨fun _ => ⟨hr, side_toNat hr⟩, fun h => absurd rfl h, fun h => by cases h⟩
  | mfunc =>
    obtain ⟨hv, hs⟩ := hr
    exact ⟨fun _ => h1 (by simp [hs]), fun hp => absurd (h2 hp) (by simp [hs]), h3⟩
  | mdata =>
    obtain ⟨hv, hs, -⟩ := hr
    exact ⟨fun _ => h1 (by simp [hs]), fun _ => by simp [runBody], h3⟩
  | mscore m =>
    refine ⟨h1, fun _ => hr.2 ▸ by decide, fun hsel => ?_⟩
    simp only [runBody, State.mscoreBody, setDetail_penvalid, h3 hsel]
    exact BitVec.allOnes_or
  | meval => exact ⟨h1, fun _ => hr.2 ▸ by decide, fun _ => rfl⟩
  | mapply m | mapsel =>
    have hs := hr.2
    exact ⟨fun _ => h1 (by simp [hs]), fun _ => by simp [runBody], h3⟩
  | encode => exact absurd rfl hi

theorem reset_stagesAgree : State.reset.StagesAgree := by decide

theorem stagesAgree_kept : KeptByParts State.StagesAgree where
  own _ _ _ _ h := h
  complete _ _ h := h
  errorComplete _ _ _ h := h
  body _ _ hi hr h := runBody_stagesAgree hi hr h
  busError _ _ h := h
  issue _ _ _ h := h
  writeStatus _ _ h := h
  softReset _ _ := reset_stagesAgree
  setIe _ _ h := h
  writeCfg _ _ _ := ⟨fun h => absurd rfl h, fun h => absurd rfl h, fun h => by cases h⟩
  writeDlen _ _ h := h
  setGfA _ _ h := h
  setGfB _ _ h := h
  writeData _ _ _ _ _ h := h
  hardReset _ _ := reset_stagesAgree

/-- Settles O56: every part of a step keeps the stages in agreement. -/
theorem stepKeepsStages : Obligations.StepKeepsStages := fun _ _ h ht => stagesAgree_kept.step h ht

end Sys2Proof.Machine
end

section
/-! SUPPORT. Lengths: how many coefficients, EC codewords and final codewords there are, so that what the
commands write fits its buffer (spec 41_reed_solomon.md R84 to R92). -/

namespace Sys2Proof.Machine

/-! ### Reed–Solomon -/

@[simp] theorem length_polyAdd (p q : List Byte) : (polyAdd p q).length = min p.length q.length := by
  simp [polyAdd]

@[simp] theorem length_polyScale (p : List Byte) (f : Byte) : (polyScale p f).length = p.length := by
  simp [polyScale]

@[simp] theorem length_mulRoot (g : List Byte) (i : Nat) : (mulRoot g i).length = g.length + 1 := by
  simp [mulRoot]

@[simp] theorem length_genpoly (n : Nat) : (genpoly n).length = n + 1 := by
  induction n with
  | zero => rfl
  | succ n ih =>
    have h : genpoly (n + 1) = mulRoot (genpoly n) n := by simp [genpoly, List.range_succ]
    rw [h, length_mulRoot, ih]

theorem length_rsStep {g r : List Byte} (d : Byte) (h : r.length = g.length) :
    (rsStep g r d).length = g.length := by
  cases r with
  | nil => simp [rsStep, ← h]
  | cons x r => simp only [rsStep, length_polyAdd, List.length_append, List.tail_cons,
      length_polyScale, ← h]; simp

theorem length_foldl_rsStep (g d r : List Byte) (h : r.length = g.length) :
    (d.foldl (rsStep g) r).length = g.length := by
  induction d generalizing r with
  | nil => exact h
  | cons x d ih => exact ih _ (length_rsStep x h)

@[simp] theorem length_rsrem (d : List Byte) (n : Nat) : (rsrem d n).length = n := by
  have hg : (genpoly n).tail.length = n := by simp
  rw [rsrem, length_foldl_rsStep _ _ _ (by simp), hg]

/-! ### Split and interleave -/

/-- One block's share of the columns: one codeword in each of its first columns. -/
theorem sum_range_length_getElem? (b : List Byte) (n : Nat) (h : b.length ≤ n) :
    ((List.range n).map fun j => (b[j]?).toList.length).sum = b.length := by
  induction b generalizing n with
  | nil => simp
  | cons x b ih =>
    obtain ⟨n, rfl⟩ : ∃ m, n = m + 1 := ⟨n - 1, by simp at h; omega⟩
    have := ih n (by simpa using h)
    simp [List.range_succ_eq_map, Function.comp_def, this, Nat.add_comm]

theorem length_blockColumn_cons (b : List Byte) (bs : List (List Byte)) (j : Nat) :
    (blockColumn (b :: bs) j).length = (b[j]?).toList.length + (blockColumn bs j).length := by
  unfold blockColumn
  cases hb : b[j]? <;> simp [hb, Nat.add_comm]

/-- Interleaving keeps every codeword when no block is longer than the column count. -/
theorem length_interleave (bs : List (List Byte)) (n : Nat) (h : ∀ b ∈ bs, b.length ≤ n) :
    (interleave bs n).length = (bs.map List.length).sum := by
  simp only [interleave, List.length_flatMap]
  induction bs with
  | nil => simp [blockColumn]
  | cons b bs ih =>
    simp only [List.mem_cons, forall_eq_or_imp] at h
    simp only [length_blockColumn_cons, List.sum_map_add, List.map_cons, List.sum_cons]
    rw [sum_range_length_getElem? b n h.1, ih h.2]

/-- The runs have the lengths asked for when there are enough codewords. -/
theorem map_length_splitRuns (d : List Byte) (ls : List Nat) (h : ls.sum ≤ d.length) :
    (splitRuns d ls).map List.length = ls := by
  induction ls generalizing d with
  | nil => rfl
  | cons n ls ih =>
    simp only [List.sum_cons] at h
    simp only [splitRuns, List.map_cons, List.length_take]
    rw [ih _ (by simp; omega), Nat.min_eq_left (by omega)]

@[simp] theorem length_splitRuns (d : List Byte) (ls : List Nat) : (splitRuns d ls).length = ls.length := by
  induction ls generalizing d with
  | nil => rfl
  | cons n ls ih => simp [splitRuns, ih]

theorem sum_blockLengths (r : BlockRow) :
    r.blockLengths.sum = r.nb1 * r.nd1 + r.nb2 * (r.nd1 + 1) := by
  simp [BlockRow.blockLengths]

theorem length_blockLengths (r : BlockRow) : r.blockLengths.length = r.nb1 + r.nb2 := by
  simp [BlockRow.blockLengths]

theorem le_columns {r : BlockRow} {n : Nat} (h : n ∈ r.blockLengths) : n ≤ r.columns := by
  simp only [BlockRow.blockLengths, List.mem_append, List.mem_replicate] at h
  simp only [BlockRow.columns]
  split <;> omega

/-- The identities of a row of the block table, and that its numbers fit their registers (R26, R41). -/
structure BlockRow.Sound (r : BlockRow) : Prop where
  ndata_eq : r.ndata = r.nb1 * r.nd1 + r.nb2 * (r.nd1 + 1)
  ntotal_eq : r.ntotal = r.ndata + (r.nb1 + r.nb2) * r.nec
  ntotal_lt : r.ntotal < 4096
  remBits_lt : r.remBits < 8

theorem blockRow_sound {v l : Nat} (hv : 1 ≤ v ∧ v ≤ 40) (hl : l < 4) : (blockRow v l).Sound := by
  have h : ∀ v < 41, 1 ≤ v → ∀ l < 4,
      (blockRow v l).ndata = (blockRow v l).nb1 * (blockRow v l).nd1 + (blockRow v l).nb2 * ((blockRow v l).nd1 + 1) ∧
      (blockRow v l).ntotal = (blockRow v l).ndata + ((blockRow v l).nb1 + (blockRow v l).nb2) * (blockRow v l).nec ∧
      (blockRow v l).ntotal < 4096 ∧ (blockRow v l).remBits < 8 := by decide +kernel
  obtain ⟨h1, h2, h3, h4⟩ := h v (by omega) hv.1 l hl
  exact ⟨h1, h2, h3, h4⟩

/-- The final sequence has NTOTAL codewords (R88). -/
theorem length_finalCodewords {r : BlockRow} (hr : r.Sound) {d : List Byte} (hd : d.length = r.ndata) :
    (finalCodewords r d).length = r.ntotal := by
  have hsum : r.blockLengths.sum = d.length := by rw [sum_blockLengths, hd, hr.ndata_eq]
  have hmap := map_length_splitRuns d r.blockLengths hsum.le
  have hcol : ∀ b ∈ splitRuns d r.blockLengths, b.length ≤ r.columns := fun b hb =>
    le_columns (hmap ▸ List.mem_map_of_mem hb)
  have hec : ∀ b ∈ (splitRuns d r.blockLengths).map fun b => rsrem b r.nec, b.length ≤ r.nec := by
    simp
  rw [finalCodewords, List.length_append, length_interleave _ _ hcol, length_interleave _ _ hec, hmap,
    hsum, hd, hr.ntotal_eq]
  simp [Function.comp_def, length_blockLengths]

theorem opRow_sound {s : State} (h : s.VersionLegal) : s.opRow.Sound :=
  blockRow_sound h s.cfg.level.isLt

theorem length_codewords {s : State} (h : s.VersionLegal) : s.codewords.length = s.opRow.ntotal :=
  length_finalCodewords (opRow_sound h) (length_memRead _ _ _ _)

end Sys2Proof.Machine
end

section
/-! SUPPORT. The canonical form of the data and the truth of CWV under every part of a step: O54 and
O57. -/

namespace Sys2Proof.Machine

/-! ### The canonical form -/

theorem powerOnMat_wf (n : Nat) : Mat.Wf (powerOnMat n) := by
  refine ⟨by simp [powerOnMat, maxSide], fun row hr => ?_⟩
  simp only [powerOnMat, List.mem_map] at hr
  obtain ⟨r, -, rfl⟩ := hr
  simp [maxSide]

/-- The matrix that MINIT leaves has the shape. -/
theorem replicate_wf (x : MCell) : Mat.Wf (List.replicate maxSide (List.replicate maxSide x)) :=
  ⟨List.length_replicate, fun row hr => by rw [List.eq_of_mem_replicate hr, List.length_replicate]⟩

theorem placeData_wf {m : Mat} (h : Mat.Wf m) (side : Nat) (cw : List Byte) :
    Mat.Wf (placeData m side cw) := Mat.setAll_wf h _

theorem candidate_wf {m : Mat} (h : Mat.Wf m) (v : Nat) (l : BitVec 2) (k : BitVec 3) :
    Mat.Wf (candidate m v l k) := Mat.setAll_wf (Mat.mapSquare_wf h _ _) _

theorem length_rsgen_le {n : Nat} (h : n ≤ 254) : (genpoly n).length ≤ genBufSize := by
  simp only [length_genpoly, genBufSize]
  omega

theorem length_rsenc_le {d : List Byte} {n : Nat} (h : n ≤ 254) : (rsrem d n).length ≤ eccBufSize := by
  simp only [length_rsrem, eccBufSize]
  omega

theorem length_codewords_le {s : State} (h : s.VersionLegal) : s.codewords.length ≤ cwBufSize := by
  have := (opRow_sound h).ntotal_lt
  simp only [length_codewords h, cwBufSize]
  omega

/-- Filling ECC_BUF, GEN_BUF or CW_BUF keeps the canonical form. -/
theorem fill_named_wf {s : State} (hm : Memory.Wf s.mem) {base size : Nat} {vs : List Byte}
    (hb : (base, size) ∈ [(eccBase, eccBufSize), (genBase, genBufSize), (cwBase, cwBufSize)])
    (hl : vs.length ≤ size) : Memory.Wf (s.fillBuffer base size vs).mem := by
  refine fillBuffer_wf hm base size vs hl fun x h1 h2 => ?_
  simp only [List.mem_cons, Prod.mk.injEq, List.not_mem_nil, or_false] at hb
  obtain ⟨rfl, rfl⟩ | ⟨rfl, rfl⟩ | ⟨rfl, rfl⟩ := hb <;> simp [inBuffers, h1, h2]

theorem runBody_wf {i : Instr} {s : State} (hi : i ≠ .encode) (hr : Runs i s) (h : s.Wf) :
    (runBody i s).Wf := by
  obtain ⟨hmem, hmat⟩ := h
  cases i with
  | nop | gfadd | gfmul | gfexp | gflog | mscore | meval => exact ⟨hmem, hmat⟩
  | rsgen n => exact ⟨fill_named_wf hmem (by simp) (length_rsgen_le hr.2), hmat⟩
  | rsenc n k => exact ⟨fill_named_wf hmem (by simp) (length_rsenc_le hr.2.1), hmat⟩
  | eccode => exact ⟨fill_named_wf hmem (by simp) (length_codewords_le hr.1), hmat⟩
  | minit => exact ⟨hmem, by rw [runBody, minitBody_mat]; exact replicate_wf _⟩
  | mfunc => exact ⟨hmem, by rw [runBody, mfuncBody_mat]; exact Mat.setAll_wf hmat _⟩
  | mdata => exact ⟨hmem, by rw [runBody, mdataBody_mat]; exact placeData_wf hmat _ _⟩
  | mapply m => exact ⟨hmem, by rw [runBody, mapplyBody_mat]; exact candidate_wf hmat _ _ _⟩
  | mapsel => exact ⟨hmem, by rw [runBody, State.applySelected, mapplyBody_mat]; exact candidate_wf hmat _ _ _⟩
  | encode => exact absurd rfl hi

theorem wf_kept : KeptByParts State.Wf where
  own _ _ _ _ h := h
  complete _ _ h := h
  errorComplete _ _ _ h := h
  body _ _ hi hr h := runBody_wf hi hr h
  busError _ _ h := h
  issue _ _ _ h := h
  writeStatus _ _ h := h
  softReset _ h := h
  setIe _ _ h := h
  writeCfg _ _ h := h
  writeDlen _ _ h := h
  setGfA _ _ h := h
  setGfB _ _ h := h
  writeData _ x d h1 h2 h := ⟨writeData_wf h.1 x d h1 h2, h.2⟩
  hardReset _ _ := ⟨reset_mem_wf, powerOnMat_wf _⟩

/-- Settles O54: every part of a step keeps the canonical form. -/
theorem stepKeepsCanonicalForm : Obligations.StepKeepsCanonicalForm := fun _ _ h ht => wf_kept.step h ht

/-! ### CWV -/

/-- Filling a buffer leaves what lies outside it. -/
theorem memRead_fillBuffer_outside {s : State} (hm : Memory.Wf s.mem) {base size : Nat} {vs : List Byte}
    (hl : vs.length ≤ size) {base' n : Nat} (h : base' + n ≤ base ∨ base + size ≤ base') :
    (s.fillBuffer base size vs).memRead base' 0 n = s.memRead base' 0 n := by
  refine memRead_memWrite_outside hm base 0 _ base' 0 n ?_
  rw [length_fill hl]
  omega

/-- A shorter read is the beginning of a longer one. -/
theorem take_memRead (s : State) (base i : Nat) {m n : Nat} (h : n ≤ m) :
    (s.memRead base i m).take n = s.memRead base i n := by
  simp [State.memRead, ← List.map_take, List.take_range, h]

/-- Filling a buffer puts the bytes at its start. -/
theorem memRead_fillBuffer {s : State} (hm : Memory.Wf s.mem) (base size : Nat) (vs : List Byte) :
    (s.fillBuffer base size vs).memRead base 0 vs.length = vs := by
  have h := memRead_memWrite hm base 0 (vs ++ List.replicate (size - vs.length) 0)
  rw [← take_memRead _ base 0 (List.sublist_append_left vs _).length_le, State.fillBuffer, h,
    List.take_left']
  rfl

/-- NDATA codewords fit DATA_BUF and NTOTAL ones CW_BUF. -/
theorem BlockRow.Sound.ndata_le {r : BlockRow} (h : r.Sound) : r.ndata ≤ r.ntotal := by
  have := h.ntotal_eq
  omega

/-- CWV stays true when DATA_BUF and CW_BUF read as before and nothing else it speaks of changes. -/
theorem cwvTrue_of_same_buffers {s : State} {m : Memory} (h : s.CwvTrue)
    (hd : ∀ n, n < 4096 → State.memRead { s with mem := m } dataBase 0 n = s.memRead dataBase 0 n)
    (hc : ∀ n, n < 4096 → State.memRead { s with mem := m } cwBase 0 n = s.memRead cwBase 0 n) :
    State.CwvTrue { s with mem := m } := by
  intro hcwv
  obtain ⟨hv, hl, hcw, hregs⟩ := h hcwv
  have hs := opRow_sound hv
  have h1 := hs.ntotal_lt
  have h2 := hs.ndata_le
  refine ⟨hv, hl, ?_, hregs⟩
  refine (hc _ h1).trans (hcw.trans ?_)
  exact congrArg (finalCodewords s.opRow) (hd _ (by omega)).symm

/-- Filling ECC_BUF or GEN_BUF leaves CWV true. -/
theorem fill_cwvTrue {s : State} (hm : Memory.Wf s.mem) (h : s.CwvTrue) {base size : Nat} {vs : List Byte}
    (hb : (base, size) ∈ [(eccBase, eccBufSize), (genBase, genBufSize)]) (hl : vs.length ≤ size) :
    (s.fillBuffer base size vs).CwvTrue := by
  simp only [List.mem_cons, Prod.mk.injEq, List.not_mem_nil, or_false] at hb
  refine cwvTrue_of_same_buffers h (fun n hn => memRead_fillBuffer_outside hm hl (.inl ?_))
    fun n hn => memRead_fillBuffer_outside hm hl (.inr ?_) <;>
  obtain ⟨rfl, rfl⟩ | ⟨rfl, rfl⟩ := hb <;>
  simp only [dataBase, cwBase, eccBase, eccBufSize, genBase, genBufSize] <;> omega

/-- ECCODE makes CWV true (R92). -/
theorem eccodeBody_cwvTrue {s : State} (hm : Memory.Wf s.mem) (hv : s.VersionLegal) (hl : s.LenRight) :
    s.eccodeBody.CwvTrue := by
  intro _
  have hs := opRow_sound hv
  have h1 := hs.ntotal_lt
  have h2 := hs.ndata_le
  have h3 := hs.remBits_lt
  refine ⟨hv, hl, ?_, Nat.mod_eq_of_lt h1, Nat.mod_eq_of_lt (by omega), rfl, Nat.mod_eq_of_lt h3⟩
  have hcw := memRead_fillBuffer hm cwBase cwBufSize s.codewords
  rw [length_codewords hv] at hcw
  refine hcw.trans (congrArg (finalCodewords s.opRow) ?_)
  refine (memRead_fillBuffer_outside hm (length_codewords_le hv) (.inl ?_)).symm
  simp only [dataBase, cwBase]
  omega

theorem runBody_cwvTrue {i : Instr} {s : State} (hi : i ≠ .encode) (hr : Runs i s) (hw : s.Wf)
    (h : s.CwvTrue) : (runBody i s).CwvTrue := by
  cases i with
  | nop | gfadd | gfmul | gfexp | gflog | mscore | meval => exact h
  | minit | mfunc | mdata | mapply | mapsel => exact h
  | rsgen n => exact fill_cwvTrue hw.1 h (by simp) (length_rsgen_le hr.2)
  | rsenc n k => exact fill_cwvTrue hw.1 h (by simp) (length_rsenc_le hr.2.1)
  | eccode => exact eccodeBody_cwvTrue hw.1 hr.1 hr.2
  | encode => exact absurd rfl hi

/-- With CWV = 0 there is nothing to be true. -/
theorem cwvTrue_of_cwv_false {s : State} (h : s.status.cwv = false) : s.CwvTrue := fun h' =>
  absurd (h.symm.trans h') Bool.false_ne_true

theorem cwvTrue_kept : KeptByParts fun s => s.Wf ∧ s.CwvTrue where
  own _ _ _ _ h := h
  complete _ _ h := h
  errorComplete _ _ _ h := h
  body _ _ hi hr h := ⟨runBody_wf hi hr h.1, runBody_cwvTrue hi hr h.1 h.2⟩
  busError _ _ h := h
  issue _ _ _ h := h
  writeStatus _ _ h := h
  softReset _ h := ⟨h.1, cwvTrue_of_cwv_false rfl⟩
  setIe _ _ h := h
  writeCfg _ _ h := ⟨h.1, cwvTrue_of_cwv_false rfl⟩
  writeDlen _ _ h := ⟨h.1, cwvTrue_of_cwv_false rfl⟩
  setGfA _ _ h := h
  setGfB _ _ h := h
  writeData s x d h1 h2 h := ⟨wf_kept.writeData s x d h1 h2 h.1, cwvTrue_of_cwv_false rfl⟩
  hardReset s h := ⟨wf_kept.hardReset s h.1, cwvTrue_of_cwv_false rfl⟩

/-- Settles O57: every part of a step keeps CWV true, with the canonical form beside it. -/
theorem stepKeepsCwvTrue : Obligations.StepKeepsCwvTrue := fun _ _ hw h ht =>
  (cwvTrue_kept.step ⟨hw, h⟩ ht).2

end Sys2Proof.Machine
end

section
/-! SUPPORT. The geometry of the symbol: which cells the function patterns name, that they lie inside
S × S, that every cell of column 6 is one of them, and which cells the zig-zag order visits (spec
42_matrix_placement.md R94 to R104). -/

namespace Sys2Proof.Machine

/-- A position inside the symbol of side S. -/
abbrev InSquare (side : Nat) (p : Nat × Nat) : Prop := p.1 < side ∧ p.2 < side

theorem sideOf_bounds {v : Nat} (hv : 1 ≤ v ∧ v ≤ 40) : 21 ≤ sideOf v ∧ sideOf v ≤ maxSide := by
  simp only [sideOf, maxSide]
  omega

/-! ### The coloured patterns and the reserved cells -/

/-- The writes of `functionWrites` that carry a colour: all but the reserved cells (R103). -/
def colouredWrites (v : Nat) : List CellWrite :=
  finderCells (sideOf v) ++ separatorCells (sideOf v) ++ timingCells (sideOf v) ++ alignmentCells v ++
    darkModule (sideOf v)

theorem functionWrites_eq (v : Nat) :
    functionWrites v = colouredWrites v ++ (reservedCells v).map fun p => (p, MCell.reserved) := rfl

theorem finderAt_inside {side r c : Nat} (hr : r + 7 ≤ side) (hc : c + 7 ≤ side) :
    ∀ w ∈ finderAt r c, InSquare side w.1 := by
  intro w hw
  simp only [finderAt, List.mem_flatMap, List.mem_map, List.mem_range] at hw
  obtain ⟨dr, h1, dc, h2, rfl⟩ := hw
  exact ⟨by dsimp only; omega, by dsimp only; omega⟩

theorem separatorCells_inside {side : Nat} (h : 21 ≤ side) :
    ∀ w ∈ separatorCells side, InSquare side w.1 := by
  intro w hw
  simp only [separatorCells, List.mem_map, List.mem_flatMap, List.mem_range] at hw
  obtain ⟨p, ⟨k, hk, hp⟩, rfl⟩ := hw
  simp only [List.mem_cons, List.not_mem_nil, or_false] at hp
  obtain rfl | rfl | rfl | rfl | rfl | rfl := hp <;> constructor <;> dsimp only <;> omega

theorem timingCells_inside {side : Nat} : ∀ w ∈ timingCells side, InSquare side w.1 := by
  intro w hw
  simp only [timingCells, List.mem_flatMap, List.mem_range, List.mem_cons, List.not_mem_nil,
    or_false] at hw
  obtain ⟨k, hk, rfl | rfl⟩ := hw <;> constructor <;> dsimp only <;> omega

/-- The alignment centres keep two cells from the border (R42). -/
theorem alignPos_bound {v : Nat} (hv : 1 ≤ v ∧ v ≤ 40) : ∀ r ∈ alignPos v, r + 2 < sideOf v := by
  have h : ∀ v < 41, ∀ r ∈ alignPos v, r + 2 < sideOf v := by decide +kernel
  exact h v (by omega)

theorem alignmentCells_inside {v : Nat} (hv : 1 ≤ v ∧ v ≤ 40) :
    ∀ w ∈ alignmentCells v, InSquare (sideOf v) w.1 := by
  intro w hw
  simp only [alignmentCells, alignmentCentres, alignmentAt, List.mem_flatMap, List.mem_filter,
    List.mem_map, List.mem_range] at hw
  obtain ⟨p, ⟨⟨r, hr, c, hc, rfl⟩, -⟩, i, hi, j, hj, rfl⟩ := hw
  have h1 := alignPos_bound hv r hr
  have h2 := alignPos_bound hv c hc
  exact ⟨by dsimp only; omega, by dsimp only; omega⟩

theorem colouredWrites_inside {v : Nat} (hv : 1 ≤ v ∧ v ≤ 40) :
    ∀ w ∈ colouredWrites v, InSquare (sideOf v) w.1 := by
  have hs := (sideOf_bounds hv).1
  intro w hw
  simp only [colouredWrites, finderCells, List.mem_append] at hw
  obtain (((((h | h) | h) | h) | h) | h) | h := hw
  · exact finderAt_inside (by omega) (by omega) w h
  · exact finderAt_inside (by omega) (by omega) w h
  · exact finderAt_inside (by omega) (by omega) w h
  · exact separatorCells_inside hs w h
  · exact timingCells_inside w h
  · exact alignmentCells_inside hv w h
  · obtain rfl := List.mem_singleton.1 h
    exact ⟨by dsimp only; omega, by dsimp only; omega⟩

theorem versionCells_inside {side : Nat} (h : 21 ≤ side) :
    (∀ p ∈ vc1 side, InSquare side p) ∧ ∀ p ∈ vc2 side, InSquare side p := by
  simp only [vc1, vc2, List.mem_map, List.mem_range, forall_exists_index, and_imp]
  constructor <;> rintro p k hk rfl <;> constructor <;> dsimp only <;> omega

theorem formatCells_inside {side : Nat} (h : 21 ≤ side) :
    (∀ p ∈ fc1, InSquare side p) ∧ ∀ p ∈ fc2 side, InSquare side p := by
  have h1 : ∀ p ∈ fc1, p.1 < 9 ∧ p.2 < 9 := by decide
  refine ⟨fun p hp => ⟨by have := h1 p hp; omega, by have := h1 p hp; omega⟩, fun p hp => ?_⟩
  simp only [fc2, List.mem_cons, List.not_mem_nil, or_false] at hp
  rcases hp with rfl | rfl | rfl | rfl | rfl | rfl | rfl | rfl | rfl | rfl | rfl | rfl | rfl | rfl | rfl <;>
    constructor <;> dsimp only <;> omega

theorem reservedCells_inside {v : Nat} (hv : 1 ≤ v ∧ v ≤ 40) :
    ∀ p ∈ reservedCells v, InSquare (sideOf v) p := by
  have hs := (sideOf_bounds hv).1
  intro p hp
  simp only [reservedCells, List.mem_append] at hp
  obtain (hp | hp) | hp := hp
  · exact (formatCells_inside hs).1 p hp
  · exact (formatCells_inside hs).2 p hp
  · split at hp
    · rcases List.mem_append.1 hp with hp | hp
      · exact (versionCells_inside hs).1 p hp
      · exact (versionCells_inside hs).2 p hp
    · cases hp

/-- Every function cell lies inside the symbol (R103). -/
theorem functionWrites_inside {v : Nat} (hv : 1 ≤ v ∧ v ≤ 40) :
    ∀ w ∈ functionWrites v, InSquare (sideOf v) w.1 := by
  intro w hw
  rw [functionWrites_eq, List.mem_append, List.mem_map] at hw
  obtain hw | ⟨p, hp, rfl⟩ := hw
  · exact colouredWrites_inside hv w hw
  · exact reservedCells_inside hv p hp

/-- A coloured write carries a colour. -/
theorem colouredWrites_colour {v : Nat} : ∀ w ∈ colouredWrites v, ∃ d, w.2 = MCell.function d := by
  intro w hw
  simp only [colouredWrites, finderCells, finderAt, separatorCells, timingCells, alignmentCells,
    alignmentAt, darkModule, List.mem_append, List.mem_flatMap, List.mem_map, List.mem_cons,
    List.not_mem_nil, or_false] at hw
  grind

/-- Every write of MFUNC makes a function cell. -/
theorem functionWrites_func {v : Nat} : ∀ w ∈ functionWrites v, w.2.func = true := by
  intro w hw
  rw [functionWrites_eq, List.mem_append, List.mem_map] at hw
  obtain hw | ⟨p, -, rfl⟩ := hw
  · obtain ⟨d, hd⟩ := colouredWrites_colour w hw
    rw [hd]
    rfl
  · rfl

/-- Every write of MFUNC outside the reserved cells sets a colour. -/
theorem functionWrites_set {v : Nat} : ∀ w ∈ functionWrites v, w.1 ∉ reservedCells v → w.2.set = true := by
  intro w hw hn
  rw [functionWrites_eq, List.mem_append, List.mem_map] at hw
  obtain hw | ⟨p, hp, rfl⟩ := hw
  · obtain ⟨d, hd⟩ := colouredWrites_colour w hw
    rw [hd]
    rfl
  · exact absurd hp hn

/-- The reserved cells are function cells. -/
theorem reserved_named {v : Nat} {p : Nat × Nat} (h : p ∈ reservedCells v) :
    ∃ x, (p, x) ∈ functionWrites v :=
  ⟨MCell.reserved, List.mem_append_right _ (List.mem_map_of_mem h)⟩

/-! ### Column 6 -/

theorem finderAt_named {r c i j : Nat} (hi : i < 7) (hj : j < 7) :
    ∃ x, ((r + i, c + j), x) ∈ finderAt r c := by
  refine ⟨_, List.mem_flatMap.2 ⟨i, List.mem_range.2 hi, List.mem_map.2 ⟨j, List.mem_range.2 hj, rfl⟩⟩⟩

/-- Column 6 holds function cells only: two finders, their separators and the timing line between. -/
theorem column_six_named {v r : Nat} (hv : 1 ≤ v ∧ v ≤ 40) (hr : r < sideOf v) :
    ∃ x, ((r, 6), x) ∈ functionWrites v := by
  have hs := (sideOf_bounds hv).1
  suffices h : ∃ x, ((r, 6), x) ∈
      finderCells (sideOf v) ++ separatorCells (sideOf v) ++ timingCells (sideOf v) by
    obtain ⟨x, hx⟩ := h
    exact ⟨x, List.mem_append_left _ (List.mem_append_left _ (List.mem_append_left _ hx))⟩
  simp only [finderCells, List.mem_append]
  by_cases h1 : r < 7
  · obtain ⟨x, hx⟩ := finderAt_named (r := 0) (c := 0) h1 (show 6 < 7 by omega)
    exact ⟨x, .inl (.inl (.inl (.inl (by simpa using hx))))⟩
  by_cases h2 : sideOf v - 7 ≤ r
  · obtain ⟨x, hx⟩ := finderAt_named (r := sideOf v - 7) (c := 0) (i := r - (sideOf v - 7)) (j := 6)
      (by omega) (by omega)
    rw [Nat.add_sub_cancel' h2] at hx
    exact ⟨x, .inl (.inl (.inr (by simpa using hx)))⟩
  by_cases h3 : r = 7 ∨ r = sideOf v - 8
  · refine ⟨MCell.function false, .inl (.inr ?_)⟩
    simp only [separatorCells, List.mem_map, List.mem_flatMap, List.mem_range]
    refine ⟨(r, 6), ⟨6, by omega, ?_⟩, rfl⟩
    obtain rfl | rfl := h3 <;> simp
  · refine ⟨MCell.function (r % 2 == 0), .inr ?_⟩
    simp only [timingCells, List.mem_flatMap, List.mem_range]
    refine ⟨r - 8, by omega, ?_⟩
    have h4 : 8 + (r - 8) = r := by omega
    simp [h4]

/-! ### The zig-zag order -/

theorem mem_zigzagPair {side right : Nat} {up : Bool} (h : 1 ≤ right) (r c : Nat) :
    (r, c) ∈ zigzagPair side right up ↔ r < side ∧ (c = right ∨ c + 1 = right) := by
  simp only [zigzagPair, List.mem_flatMap, List.mem_range, List.mem_cons, Prod.mk.injEq,
    List.not_mem_nil, or_false]
  constructor
  · rintro ⟨vert, hv, ⟨rfl, rfl⟩ | ⟨rfl, rfl⟩⟩ <;> refine ⟨?_, by omega⟩ <;> split <;> omega
  · rintro ⟨hr, hc⟩
    cases up with
    | true => exact ⟨side - 1 - r, by omega, by simp; omega⟩
    | false => exact ⟨r, hr, by simp; omega⟩

/-- From a column the walk comes to, it visits the columns at and left of it, but for column 6. -/
theorem mem_zigzagFrom {side : Nat} (fuel right : Nat) (hf : right ≤ fuel)
    (hc : (right % 2 = 0 ∧ right ≠ 2 ∧ right ≠ 4) ∨ right = 3 ∨ right = 1) (r c : Nat) :
    (r, c) ∈ zigzagFrom side fuel right ↔ r < side ∧ 1 ≤ right ∧ c ≤ right ∧ c ≠ 6 := by
  induction fuel generalizing right with
  | zero =>
    obtain rfl : right = 0 := by omega
    simp [zigzagFrom]
  | succ fuel ih =>
    unfold zigzagFrom
    by_cases h0 : right < 1
    · simp [h0]
    · by_cases h6 : right = 6
      · simp only [h6, if_true]
        rw [if_neg (by omega), List.mem_append, mem_zigzagPair (by omega), ih 3 (by omega) (by omega)]
        omega
      · simp only [h0, h6, if_false]
        rw [List.mem_append, mem_zigzagPair (by omega), ih (right - 2) (by omega) (by omega)]
        omega

/-- The zig-zag order visits the symbol but for column 6 (R104). -/
theorem mem_zigzag {v : Nat} (hv : 1 ≤ v ∧ v ≤ 40) (r c : Nat) :
    (r, c) ∈ zigzag (sideOf v) ↔ r < sideOf v ∧ c < sideOf v ∧ c ≠ 6 := by
  have hs := (sideOf_bounds hv).1
  rw [zigzag, mem_zigzagFrom _ _ (by omega) (by simp only [sideOf]; omega)]
  omega

end Sys2Proof.Machine
end

section
/-! SUPPORT. The matrix at each stage under every part of a step: what a cell is after MINIT, MFUNC, MDATA
and MAPPLY, and the predicates of O58 kept. -/

namespace Sys2Proof.Machine

/-! ### Cells -/

/-- There is no cell outside MAT. -/
theorem Mat.cell_outside {m : Mat} (h : Mat.Wf m) {r c : Nat} (hrc : ¬ (r < maxSide ∧ c < maxSide)) :
    Mat.cell m r c = MCell.unset := by
  obtain ⟨h1, h2⟩ := h
  unfold Mat.cell
  by_cases hr : r < m.length
  · have hl : m[r].length = maxSide := h2 _ (List.getElem_mem hr)
    rw [List.getD_eq_getElem _ _ hr]
    exact List.getD_eq_default _ _ (by omega)
  · rw [List.getD_eq_default (l := m) _ (by omega)]
    rfl

/-- A cell that writes name has the content of one of them afterwards. -/
theorem Mat.exists_write_of_named {m : Mat} (h : Mat.Wf m) (ws : List CellWrite) {r c : Nat}
    (hr : r < maxSide) (hc : c < maxSide) (hw : ∃ x, ((r, c), x) ∈ ws) :
    ∃ x, ((r, c), x) ∈ ws ∧ Mat.cell (Mat.setAll m ws) r c = x := by
  induction ws generalizing m with
  | nil => simp at hw
  | cons w ws ih =>
    have hwf := Mat.setCell_wf h w.1.1 w.1.2 w.2
    by_cases h' : ∃ x, ((r, c), x) ∈ ws
    · obtain ⟨x, hx, he⟩ := ih hwf h'
      exact ⟨x, List.mem_cons_of_mem _ hx, he⟩
    · obtain ⟨x, hx⟩ := hw
      obtain rfl : ((r, c), x) = w := (List.mem_cons.1 hx).resolve_right fun hx' => h' ⟨x, hx'⟩
      refine ⟨x, List.mem_cons_self, ?_⟩
      have hn := Mat.cell_setAll_of_not_mem hwf ws r c fun w hw he => h' ⟨w.2, he ▸ hw⟩
      exact hn.trans ((Mat.cell_setCell h r c x r c).trans (if_pos ⟨rfl, rfl, hr, hc⟩))

theorem cell_replicate_unset (r c : Nat) :
    Mat.cell (List.replicate maxSide (List.replicate maxSide MCell.unset)) r c = MCell.unset := by
  by_cases h : r < maxSide ∧ c < maxSide
  · simp [Mat.cell, List.getD_eq_getElem?_getD, h.1, h.2]
  · exact Mat.cell_outside (replicate_wf _) h

/-! ### Placing data -/

/-- The writes of data placement, one for each data cell (R105). -/
theorem dataWrites_spec (cells : List (Nat × Nat)) (bits : List Bool) :
    (∀ w ∈ List.zipWith (fun p b => ((p, MCell.data b) : CellWrite)) cells bits,
      w.1 ∈ cells ∧ ∃ b, w.2 = MCell.data b) ∧
    (cells.length ≤ bits.length → ∀ p ∈ cells,
      ∃ x, (p, x) ∈ List.zipWith (fun p b => ((p, MCell.data b) : CellWrite)) cells bits) := by
  induction cells generalizing bits with
  | nil => simp
  | cons p cells ih =>
    cases bits with
    | nil => simp
    | cons b bits =>
      obtain ⟨h1, h2⟩ := ih bits
      refine ⟨fun w hw => ?_, fun hl q hq => ?_⟩
      · obtain rfl | hw := List.mem_cons.1 hw
        · exact ⟨List.mem_cons_self, b, rfl⟩
        · exact ⟨List.mem_cons_of_mem _ (h1 w hw).1, (h1 w hw).2⟩
      · obtain rfl | hq := List.mem_cons.1 hq
        · exact ⟨_, List.mem_cons_self⟩
        · obtain ⟨x, hx⟩ := h2 (by simpa using hl) q hq
          exact ⟨x, List.mem_cons_of_mem _ hx⟩

/-- Data placement leaves every cell that is no data cell. -/
theorem cell_placeData_other {m : Mat} (h : Mat.Wf m) {side r c : Nat} (cw : List Byte)
    (hn : (r, c) ∉ dataCells m side) : Mat.cell (placeData m side cw) r c = Mat.cell m r c :=
  Mat.cell_setAll_of_not_mem h _ r c fun w hw he => hn (he ▸ ((dataWrites_spec _ _).1 w hw).1)

/-- Data placement makes every data cell hold a bit. -/
theorem cell_placeData_data {m : Mat} (h : Mat.Wf m) {side r c : Nat} (cw : List Byte)
    (hr : r < maxSide) (hc : c < maxSide) (hd : (r, c) ∈ dataCells m side) :
    ∃ b, Mat.cell (placeData m side cw) r c = MCell.data b := by
  have hn := (dataWrites_spec (dataCells m side) (cw.flatMap msbFirst ++
    List.replicate (dataCells m side).length false)).2 (by simp) (r, c) hd
  obtain ⟨x, hx, he⟩ := Mat.exists_write_of_named h _ hr hc hn
  obtain ⟨-, b, hb⟩ := (dataWrites_spec _ _).1 _ hx
  exact ⟨b, he.trans hb⟩

/-- The data cells are the cells of the zig-zag order that are no function cells (R105). -/
theorem mem_dataCells {m : Mat} {v : Nat} (hv : 1 ≤ v ∧ v ≤ 40) {r c : Nat} :
    (r, c) ∈ dataCells m (sideOf v) ↔
      (r < sideOf v ∧ c < sideOf v ∧ c ≠ 6) ∧ (Mat.cell m r c).func = false := by
  simp [dataCells, mem_zigzag hv]

/-! ### Applying a mask -/

@[simp] theorem maskCell_set (m : BitVec 3) (i j : Nat) (x : MCell) : (maskCell m i j x).set = x.set := by
  unfold maskCell
  split <;> rfl

@[simp] theorem maskCell_func (m : BitVec 3) (i j : Nat) (x : MCell) : (maskCell m i j x).func = x.func := by
  unfold maskCell
  split <;> rfl

/-- The writes of format and version information (R111, R112). -/
abbrev infoCells (v : Nat) (l : BitVec 2) (m : BitVec 3) : List CellWrite :=
  fmtWrites (sideOf v) (fmtbits l m) ++ verWrites v

theorem map_fst_infoWrites (cells : List (Nat × Nat)) (bit : Nat → Bool) :
    (infoWrites cells bit).map Prod.fst = cells := by
  simp [infoWrites, Function.comp_def, List.zipIdx_map_fst]

/-- Information is written into the reserved cells, all of them (R99, R100). -/
theorem map_fst_infoCells (v : Nat) (l : BitVec 2) (m : BitVec 3) :
    (infoCells v l m).map Prod.fst = reservedCells v := by
  unfold infoCells fmtWrites verWrites reservedCells
  split <;> simp [map_fst_infoWrites]

theorem infoCells_function {v : Nat} {l : BitVec 2} {m : BitVec 3} {w : CellWrite}
    (h : w ∈ infoCells v l m) : ∃ d, w.2 = MCell.function d := by
  have hi : ∀ cells bit, w ∈ infoWrites cells bit → ∃ d, w.2 = MCell.function d := by
    intro cells bit hw
    obtain ⟨p, -, rfl⟩ := List.mem_map.1 hw
    exact ⟨_, rfl⟩
  simp only [infoCells, fmtWrites, verWrites, List.mem_append] at h
  obtain (h | h) | h := h
  · exact hi _ _ h
  · exact hi _ _ h
  · split at h
    · exact (List.mem_append.1 h).elim (hi _ _) (hi _ _)
    · cases h

/-- After the mask every reserved cell holds a bit of information. -/
theorem cell_candidate_reserved {mat : Mat} (h : Mat.Wf mat) {v : Nat} (hv : 1 ≤ v ∧ v ≤ 40) (l : BitVec 2)
    (m : BitVec 3) {r c : Nat} (hr : (r, c) ∈ reservedCells v) :
    ∃ d, Mat.cell (candidate mat v l m) r c = MCell.function d := by
  have hs := (sideOf_bounds hv).2
  obtain ⟨h1, h2⟩ := reservedCells_inside hv _ hr
  have hn : ∃ x, ((r, c), x) ∈ infoCells v l m := by
    rw [← map_fst_infoCells v l m] at hr
    obtain ⟨w, hw, he⟩ := List.mem_map.1 hr
    exact ⟨w.2, he ▸ hw⟩
  obtain ⟨x, hx, he⟩ := Mat.exists_write_of_named (Mat.mapSquare_wf h (sideOf v) (maskCell m)) _
    (h1.trans_le hs) (h2.trans_le hs) hn
  obtain ⟨d, hd⟩ := infoCells_function hx
  exact ⟨d, he.trans hd⟩

/-- Every other cell is masked inside the symbol and left outside it. -/
theorem cell_candidate_other {mat : Mat} (h : Mat.Wf mat) {v : Nat} (l : BitVec 2)
    (m : BitVec 3) {r c : Nat} (hn : (r, c) ∉ reservedCells v) :
    Mat.cell (candidate mat v l m) r c =
      if r < sideOf v ∧ c < sideOf v ∧ r < maxSide ∧ c < maxSide then maskCell m r c (Mat.cell mat r c)
      else Mat.cell mat r c := by
  have hwf := Mat.mapSquare_wf h (sideOf v) (maskCell m)
  have h1 : Mat.cell (candidate mat v l m) r c = Mat.cell (Mat.mapSquare (sideOf v) (maskCell m) mat) r c := by
    refine Mat.cell_setAll_of_not_mem hwf _ r c fun w hw he => hn ?_
    rw [← map_fst_infoCells v l m, ← he]
    exact List.mem_map_of_mem hw
  rw [h1]
  by_cases hm : r < maxSide ∧ c < maxSide
  · simp only [Mat.cell_mapSquare h _ _ _ _ hm.1 hm.2, hm, and_true]
  · rw [if_neg (by omega), Mat.cell_outside hwf hm, Mat.cell_outside h hm]

/-! ### What a matrix is at a stage -/

/-- The function cells are those of the geometry, coloured but for the reserved ones: what holds from
stage 2 on. -/
def FunctionCells (m : Mat) (v : Nat) : Prop :=
  ∀ r c, r < sideOf v → c < sideOf v →
    ((Mat.cell m r c).func = true ↔ ∃ x, ((r, c), x) ∈ functionWrites v) ∧
      ((Mat.cell m r c).func = true → (r, c) ∉ reservedCells v → (Mat.cell m r c).set = true)

/-- Every cell outside the symbol is unset. -/
def UnsetOutside (m : Mat) (v : Nat) : Prop :=
  ∀ r c, (sideOf v ≤ r ∨ sideOf v ≤ c) → Mat.cell m r c = MCell.unset

section Stages

variable {s : State}

theorem matrixAsStage_zero (hs : s.status.mstage = 0) : s.MatrixAsStage := by
  simp [State.MatrixAsStage, hs]

theorem matrixAsStage_one (hs : s.status.mstage = 1) (h : ∀ r c, Mat.cell s.mat r c = MCell.unset) :
    s.MatrixAsStage := by
  simp [State.MatrixAsStage, hs, h]

theorem matrixAsStage_two (hs : s.status.mstage = 2) : s.MatrixAsStage ↔ FunctionCells s.mat s.opV ∧
    ∀ r c, r < s.opSide → c < s.opSide → (Mat.cell s.mat r c).func = false →
      Mat.cell s.mat r c = MCell.unset := by
  simp [State.MatrixAsStage, FunctionCells, hs, State.opSide]

theorem matrixAsStage_three (hs : s.status.mstage = 3) : s.MatrixAsStage ↔ FunctionCells s.mat s.opV ∧
    ∀ r c, r < s.opSide → c < s.opSide → (r, c) ∉ reservedCells s.opV →
      (Mat.cell s.mat r c).set = true := by
  simp [State.MatrixAsStage, FunctionCells, hs, State.opSide]

theorem matrixAsStage_four (hs : s.status.mstage = 4) (hf : FunctionCells s.mat s.opV)
    (h : ∀ r c, r < s.opSide → c < s.opSide → (Mat.cell s.mat r c).set = true) : s.MatrixAsStage :=
  ⟨by simp [hs], fun _ => hf, by simp [hs], fun _ r c hr hc _ => h r c hr hc, fun _ => h⟩

theorem outsideUnset_zero (hs : s.status.mstage = 0) : s.OutsideUnset := fun h => absurd hs h

end Stages

/-! ### The bodies, stage by stage -/

theorem minitBody_stage (s : State) : s.minitBody.OutsideUnset ∧ s.minitBody.MatrixAsStage := by
  have h : ∀ r c, Mat.cell s.minitBody.mat r c = MCell.unset := fun r c => by
    rw [minitBody_mat]
    exact cell_replicate_unset r c
  exact ⟨fun _ r c _ => h r c, matrixAsStage_one rfl h⟩

section Bodies

variable {s : State} (hw : s.Wf) (hv : s.VersionLegal) (hm : s.MatrixAsStage)
include hw hv hm

/-- MFUNC makes the cells it names function cells of a cleared matrix. -/
theorem mfuncBody_stage (hs : s.status.mstage = 1) :
    s.mfuncBody.OutsideUnset ∧ s.mfuncBody.MatrixAsStage := by
  have hb := (sideOf_bounds hv).2
  have hother : ∀ r c, (¬ ∃ x, ((r, c), x) ∈ functionWrites s.opV) →
      Mat.cell s.mfuncBody.mat r c = MCell.unset := by
    intro r c hn
    rw [mfuncBody_mat]
    exact (Mat.cell_setAll_of_not_mem hw.2 _ r c fun w hw he => hn ⟨w.2, he ▸ hw⟩).trans (hm.1 hs r c)
  have hnamed : ∀ r c, r < s.opSide → c < s.opSide → (∃ x, ((r, c), x) ∈ functionWrites s.opV) →
      ∃ x, ((r, c), x) ∈ functionWrites s.opV ∧ Mat.cell s.mfuncBody.mat r c = x := by
    intro r c hr hc hn
    rw [mfuncBody_mat]
    exact Mat.exists_write_of_named hw.2 _ (hr.trans_le hb) (hc.trans_le hb) hn
  have hfunc : ∀ r c, r < s.opSide → c < s.opSide → ((Mat.cell s.mfuncBody.mat r c).func = true ↔
      ∃ x, ((r, c), x) ∈ functionWrites s.opV) := by
    intro r c hr hc
    refine ⟨fun hf => ?_, fun hn => ?_⟩
    · by_contra hn
      rw [hother r c hn] at hf
      cases hf
    · obtain ⟨x, hx, he⟩ := hnamed r c hr hc hn
      rw [he]
      exact functionWrites_func _ hx
  refine ⟨fun _ r c hrc => hother r c fun ⟨x, hx⟩ => ?_, (matrixAsStage_two rfl).2
    ⟨fun r c hr hc => ⟨hfunc r c hr hc, fun hf hn => ?_⟩, fun r c hr hc hf => hother r c fun hn => ?_⟩⟩
  · obtain ⟨h1, h2⟩ := functionWrites_inside hv _ hx
    exact absurd hrc (by simp only [State.opSide, not_or, not_le]; exact ⟨h1, h2⟩)
  · obtain ⟨x, hx, he⟩ := hnamed r c hr hc ((hfunc r c hr hc).1 hf)
    rw [he]
    exact functionWrites_set _ hx hn
  · rw [(hfunc r c hr hc).2 hn] at hf
    cases hf

variable (ho : s.OutsideUnset)
include ho

/-- MDATA makes every cell that is no function cell hold a bit, and changes no other. -/
theorem mdataBody_stage (hs : s.status.mstage = 2) :
    s.mdataBody.OutsideUnset ∧ s.mdataBody.MatrixAsStage := by
  obtain ⟨hf, -⟩ := (matrixAsStage_two hs).1 hm
  have hb := (sideOf_bounds hv).2
  have hother : ∀ r c, (r, c) ∉ dataCells s.mat s.opSide →
      Mat.cell s.mdataBody.mat r c = Mat.cell s.mat r c := by
    intro r c hn
    rw [mdataBody_mat]
    exact cell_placeData_other hw.2 _ hn
  have hdata : ∀ r c, r < s.opSide → c < s.opSide → (r, c) ∈ dataCells s.mat s.opSide →
      ∃ b, Mat.cell s.mdataBody.mat r c = MCell.data b := by
    intro r c hr hc hd
    rw [mdataBody_mat]
    exact cell_placeData_data hw.2 _ (hr.trans_le hb) (hc.trans_le hb) hd
  have hcell : ∀ r c, r < s.opSide → c < s.opSide →
      ((Mat.cell s.mat r c).func = true ∧ Mat.cell s.mdataBody.mat r c = Mat.cell s.mat r c) ∨
      ((Mat.cell s.mat r c).func = false ∧ ∃ b, Mat.cell s.mdataBody.mat r c = MCell.data b) := by
    intro r c hr hc
    cases h : (Mat.cell s.mat r c).func with
    | true => exact .inl ⟨rfl, hother r c fun hd => by simp [((mem_dataCells hv).1 hd).2] at h⟩
    | false =>
      have h6 : c ≠ 6 := by
        rintro rfl
        rw [(hf r 6 hr hc).1.2 (column_six_named hv hr)] at h
        cases h
      exact .inr ⟨rfl, hdata r c hr hc ((mem_dataCells hv).2 ⟨⟨hr, hc, h6⟩, h⟩)⟩
  refine ⟨fun _ r c hrc => ?_, (matrixAsStage_three rfl).2 ⟨fun r c hr hc => ?_, fun r c hr hc hn => ?_⟩⟩
  · refine (hother r c fun hd => ?_).trans (ho (by simp [hs]) r c hrc)
    obtain ⟨⟨h1, h2, -⟩, -⟩ := (mem_dataCells hv).1 hd
    exact absurd hrc (by simp only [State.opSide, not_or, not_le]; exact ⟨h1, h2⟩)
  · obtain ⟨-, he⟩ | ⟨hd, b, he⟩ := hcell r c hr hc
    · rw [he]
      exact hf r c hr hc
    · refine ⟨?_, fun _ _ => by rw [he]; rfl⟩
      have h1 := (hf r c hr hc).1
      rw [hd] at h1
      rw [he]
      exact h1
  · obtain ⟨hd, he⟩ | ⟨-, b, he⟩ := hcell r c hr hc
    · rw [he]
      exact (hf r c hr hc).2 hd hn
    · rw [he]
      rfl

/-- MAPPLY keeps which cells are function cells and colours the reserved ones. -/
theorem mapplyBody_stage (m : BitVec 3) (hs : s.status.mstage = 3) :
    (s.mapplyBody m).OutsideUnset ∧ (s.mapplyBody m).MatrixAsStage := by
  obtain ⟨hf, hset⟩ := (matrixAsStage_three hs).1 hm
  have hother : ∀ r c, (r, c) ∉ reservedCells s.opV →
      (Mat.cell (s.mapplyBody m).mat r c).func = (Mat.cell s.mat r c).func ∧
      (Mat.cell (s.mapplyBody m).mat r c).set = (Mat.cell s.mat r c).set := by
    intro r c hn
    rw [mapplyBody_mat, cell_candidate_other hw.2 _ _ hn]
    split <;> simp
  have hres : ∀ r c, (r, c) ∈ reservedCells s.opV →
      ∃ d, Mat.cell (s.mapplyBody m).mat r c = MCell.function d := by
    intro r c hr
    rw [mapplyBody_mat]
    exact cell_candidate_reserved hw.2 hv _ _ hr
  have hall : ∀ r c, r < s.opSide → c < s.opSide → (Mat.cell (s.mapplyBody m).mat r c).set = true := by
    intro r c hr hc
    by_cases hn : (r, c) ∈ reservedCells s.opV
    · obtain ⟨d, hd⟩ := hres r c hn
      rw [hd]
      rfl
    · rw [(hother r c hn).2]
      exact hset r c hr hc hn
  refine ⟨fun _ r c hrc => ?_, matrixAsStage_four rfl (fun r c hr hc => ⟨?_, fun _ _ => hall r c hr hc⟩) hall⟩
  · have hout : ¬ InSquare (sideOf s.opV) (r, c) := fun h =>
      absurd hrc (by simp only [State.opSide, not_or, not_le]; exact h)
    rw [mapplyBody_mat, cell_candidate_other hw.2 _ _ fun h => hout (reservedCells_inside hv _ h),
      if_neg fun h => hout ⟨h.1, h.2.1⟩]
    exact ho (by simp [hs]) r c hrc
  · by_cases hn : (r, c) ∈ reservedCells s.opV
    · obtain ⟨d, hd⟩ := hres r c hn
      rw [hd]
      exact ⟨fun _ => reserved_named hn, fun _ => rfl⟩
    · rw [(hother r c hn).1]
      exact (hf r c hr hc).1

end Bodies

theorem runBody_stage {i : Instr} {s : State} (hi : i ≠ .encode) (hr : Runs i s) (hw : s.Wf)
    (ho : s.OutsideUnset) (hm : s.MatrixAsStage) :
    (runBody i s).OutsideUnset ∧ (runBody i s).MatrixAsStage := by
  cases i with
  | nop | gfadd | gfmul | gfexp | gflog | rsgen | rsenc | eccode | mscore | meval => exact ⟨ho, hm⟩
  | minit => exact minitBody_stage s
  | mfunc => exact mfuncBody_stage hw hr.1 hm hr.2
  | mdata => exact mdataBody_stage hw hr.1 hm ho hr.2.1
  | mapply m => exact mapplyBody_stage hw hr.1 hm ho m hr.2
  | mapsel => exact mapplyBody_stage hw hr.1 hm ho s.maskSel.sel hr.2.1
  | encode => exact absurd rfl hi

theorem matrixAsStage_kept : KeptByParts fun s => s.Wf ∧ s.OutsideUnset ∧ s.MatrixAsStage where
  own _ _ _ _ h := h
  complete _ _ h := h
  errorComplete _ _ _ h := h
  body _ _ hi hr h := ⟨runBody_wf hi hr h.1, runBody_stage hi hr h.1 h.2.1 h.2.2⟩
  busError _ _ h := h
  issue _ _ _ h := h
  writeStatus _ _ h := h
  softReset _ h := ⟨h.1, outsideUnset_zero rfl, matrixAsStage_zero rfl⟩
  setIe _ _ h := h
  writeCfg _ _ h := ⟨h.1, outsideUnset_zero rfl, matrixAsStage_zero rfl⟩
  writeDlen _ _ h := h
  setGfA _ _ h := h
  setGfB _ _ h := h
  writeData s x d h1 h2 h := ⟨wf_kept.writeData s x d h1 h2 h.1, h.2⟩
  hardReset s h := ⟨wf_kept.hardReset s h.1, outsideUnset_zero rfl, matrixAsStage_zero rfl⟩

/-- Settles O58: every part of a step keeps the matrix as its stage says, with the canonical form beside
it. -/
theorem stepKeepsMatrixAsStage : Obligations.StepKeepsMatrixAsStage := fun _ _ hw ho hm ht =>
  (matrixAsStage_kept.step ⟨hw, ho, hm⟩ ht).2

end Sys2Proof.Machine
end

section
/-! SUPPORT. The state after reset, the generated tables, and host accesses to single registers: O59,
O18, O32, O43, O44, O47 and O60. -/

namespace Sys2Proof.Machine

/-! ### Reset -/

/-- Settles O59: each invariant at reset, where MSTAGE and CWV are 0. -/
theorem resetMeetsInvariants : Obligations.ResetMeetsInvariants :=
  ⟨⟨reset_mem_wf, powerOnMat_wf 0⟩, reset_codesAndFlags.1, reset_codesAndFlags.2, reset_stagesAgree,
    cwvTrue_of_cwv_false rfl, outsideUnset_zero rfl, matrixAsStage_zero rfl⟩

/-! ### Tables -/

theorem gfExp_succ : ∀ i < 254, gfExp (i + 1) = gfDouble (gfExp i) := by decide +kernel

theorem gfLog_gfExp : ∀ i < 255, gfLog (gfExp i) = i := by decide +kernel

theorem gfExp_gfLog : ∀ a : Byte, a ≠ 0 → gfLog a < 255 ∧ gfExp (gfLog a) = a := by decide +kernel

/-- Settles O18: entry by entry of the two tables; GF_LOG[0], a free value, is not read. -/
theorem gfTablesGenerated : Obligations.GfTablesGenerated :=
  ⟨rfl, gfExp_succ, gfLog_gfExp, gfExp_gfLog⟩

/-- Settles O32: the BCH divisions give the 32 and 34 entries of the tables. -/
theorem infoTablesAgree : Obligations.InfoTablesAgree := by
  have hv : ∀ v < 41, 7 ≤ v → verTable[v - 7]? = some (verbits v) := by decide +kernel
  exact ⟨by decide +kernel, fun v h7 h40 => hv v (by omega) h7⟩

/-! ### Writes to one register -/

/-- An aligned write to a location that takes writes has that location's effect. -/
theorem hostWrite_of_loc {s : State} {a : Addr} (l : Loc) (d : Word) (hl : locOf a = l)
    (ha : misaligned a = false) (hu : l ≠ .unmapped) (hr : l.readOnly = false)
    (hb : s.busy = false ∨ l.lockedWhileBusy = false) :
    s.hostWrite a d = (s.writeLoc l d).respond 0 true := by
  have h : writeError s a = none := by
    subst hl
    have hb' : (s.busy && (locOf a).lockedWhileBusy) = false := by
      obtain h | h := hb <;> simp [h]
    simp [writeError, ha, hu, hr, hb']
  unfold State.hostWrite
  rw [h, hl]

/-- Settles O43: CFG is the location at 0x014. -/
theorem cfgWriteInvalidates : Obligations.CfgWriteInvalidates := fun _ d hb =>
  ⟨0, hostWrite_of_loc (.reg .cfg) d rfl (by decide) (by decide) rfl (.inl hb)⟩

/-- Settles O44: DLEN, GF_A, GF_B and CTRL are the locations at 0x018, 0x01C, 0x020 and 0x010. -/
theorem operandWrites : Obligations.OperandWrites := fun s d =>
  ⟨0, fun hb =>
    ⟨hostWrite_of_loc (.reg .dlen) d rfl (by decide) (by decide) rfl (.inl hb),
      hostWrite_of_loc (.reg .gfA) d rfl (by decide) (by decide) rfl (.inl hb),
      hostWrite_of_loc (.reg .gfB) d rfl (by decide) (by decide) rfl (.inl hb)⟩,
    fun hd => by
      rw [hostWrite_of_loc (.reg .ctrl) d rfl (by decide) (by decide) rfl (.inr rfl)]
      simp only [State.writeLoc, State.writeCtrl, hd]
      rfl⟩

/-! ### Words as numbers, field by field -/

theorem toNat_append_eq_add {n m : Nat} (x : BitVec n) (y : BitVec m) :
    (x ++ y).toNat = x.toNat * 2 ^ m + y.toNat := by
  rw [BitVec.toNat_append, ← Nat.shiftLeft_add_eq_or_of_lt y.isLt, Nat.shiftLeft_eq]

/-- STATUS (R21). -/
theorem statusWord_toNat (t : Status) (b : Bool) : (t.toWord b).toNat =
    b.toNat + 2 * t.done.toNat + 4 * t.err.toNat + 8 * t.berr.toNat + 16 * t.cwv.toNat +
      32 * t.mstage.toNat + 256 * t.selv.toNat + 4096 * t.ecode.toNat + 65536 * t.bcode.toNat +
      16777216 * t.lastop.toNat := by
  rw [Status.toWord]
  simp only [toNat_append_eq_add, BitVec.toNat_ofBool, BitVec.toNat_ofNat]
  omega

/-- CFG (R23). -/
theorem cfgWord_eq (c : Cfg) : c.toWord = BitVec.ofNat 32 (c.version.toNat + 256 * c.level.toNat) := by
  apply BitVec.eq_of_toNat_eq
  rw [Cfg.toWord]
  simp only [toNat_append_eq_add, BitVec.toNat_ofNat]
  omega

/-- MASKSEL (R28). -/
theorem maskSelWord_eq (x : MaskSel) :
    x.toWord = BitVec.ofNat 32 (x.sel.toNat + 256 * x.applied.toNat + 65536 * x.pdm.toNat) := by
  apply BitVec.eq_of_toNat_eq
  rw [MaskSel.toWord]
  simp only [toNat_append_eq_add, BitVec.toNat_ofNat]
  omega

/-- CTRL (R22). -/
theorem ctrlWord_eq (s : State) : s.ctrlWord = if s.ie then 1 else 0 := by
  unfold State.ctrlWord
  cases s.ie <;> rfl

theorem getLsbD_eq_of_toNat {w : Word} {i : Nat} {b : Bool} (h : w.toNat / 2 ^ i % 2 = b.toNat) :
    w.getLsbD i = b := by
  rw [BitVec.getLsbD, Nat.testBit_eq_decide_div_mod_eq, h]
  cases b <;> rfl

theorem extractLsb'_eq_of_toNat {w : Word} {k n : Nat} {f : BitVec n}
    (h : w.toNat / 2 ^ k % 2 ^ n = f.toNat) : w.extractLsb' k n = f := by
  apply BitVec.eq_of_toNat_eq
  rw [BitVec.extractLsb'_toNat, Nat.shiftRight_eq_div_pow, h]

/-! ### STATUS -/

/-- The one-bit fields of STATUS (R21). -/
theorem statusWord_flags (t : Status) (b : Bool) :
    (t.toWord b).getLsbD 0 = b ∧ (t.toWord b).getLsbD 1 = t.done ∧ (t.toWord b).getLsbD 2 = t.err ∧
      (t.toWord b).getLsbD 3 = t.berr ∧ (t.toWord b).getLsbD 4 = t.cwv ∧
      (t.toWord b).getLsbD 8 = t.selv := by
  have h0 := b.toNat_le
  have h1 := t.done.toNat_le
  have h2 := t.err.toNat_le
  have h3 := t.berr.toNat_le
  have h4 := t.cwv.toNat_le
  have h8 := t.selv.toNat_le
  refine ⟨?_, ?_, ?_, ?_, ?_, ?_⟩ <;> apply getLsbD_eq_of_toNat <;> rw [statusWord_toNat] <;> omega

/-- The wider fields of STATUS, the reserved ones among them (R21). -/
theorem statusWord_fields (t : Status) (b : Bool) :
    (t.toWord b).extractLsb' 5 3 = t.mstage ∧ (t.toWord b).extractLsb' 9 3 = 0#3 ∧
      (t.toWord b).extractLsb' 12 4 = t.ecode ∧ (t.toWord b).extractLsb' 16 4 = t.bcode ∧
      (t.toWord b).extractLsb' 20 4 = 0#4 ∧ (t.toWord b).extractLsb' 24 8 = t.lastop := by
  have h0 := b.toNat_le
  have h1 := t.done.toNat_le
  have h2 := t.err.toNat_le
  have h3 := t.berr.toNat_le
  have h4 := t.cwv.toNat_le
  have h8 := t.selv.toNat_le
  have h9 : (0#3).toNat = 0 := rfl
  have h20 : (0#4).toNat = 0 := rfl
  refine ⟨?_, ?_, ?_, ?_, ?_, ?_⟩ <;> apply extractLsb'_eq_of_toNat <;> rw [statusWord_toNat] <;> omega

/-- An acknowledged flag is cleared, the others stay. -/
theorem and_not_eq_ite (b c : Bool) : (b && !c) = if c then false else b := by
  cases c <;> simp

/-- Settles O47: the fields from the word as a number, and the write at 0x00C, busy or not. -/
theorem statusFieldsAndWriteOneToClear : Obligations.StatusFieldsAndWriteOneToClear := by
  intro s d
  obtain ⟨h0, h1, h2, h3, h4, h8⟩ := statusWord_flags s.status s.busy
  obtain ⟨h5, h9, h12, h16, h20, h24⟩ := statusWord_fields s.status s.busy
  refine ⟨h0, h1, h2, h3, h4, h5, h8, h9, h12, h16, h20, h24, 0, ?_⟩
  rw [hostWrite_of_loc (.reg .status) d rfl (by decide) (by decide) rfl (.inr rfl)]
  simp only [State.writeLoc, State.writeStatus, State.respond, and_not_eq_ite]

/-! ### Reads of one register -/

/-- While BUSY = 0 nothing is drawn (R58). -/
theorem readValue_of_idle {s : State} (hb : s.busy = false) (l : Loc) : s.readValue l = s.readLoc l := by
  have hp : s.pendcmd = none := by simpa [State.busy] using hb
  have hm : s.drawMaskOf l = 0#32 := by simp [State.drawMaskOf, hp]
  have hn : ~~~0#32 = BitVec.allOnes 32 := rfl
  rw [State.readValue, hm, hn, BitVec.and_allOnes, BitVec.and_zero, BitVec.or_zero]

/-- While BUSY = 0 an aligned read of a register gives back the register. -/
theorem hostRead_reg {s : State} (hb : s.busy = false) {a : Addr} (r : Reg) (hl : locOf a = .reg r)
    (ha : misaligned a = false) : (s.hostRead a).resp = some ⟨s.readReg r, true⟩ := by
  have he : readError a = none := by simp [readError, ha, hl]
  unfold State.hostRead
  rw [he, hl]
  simp [readValue_of_idle hb, State.readLoc]

/-- Settles O60: the location of each offset, and the register there as a number. -/
theorem registerReadMap : Obligations.RegisterReadMap := by
  intro s hb f hf
  have hpen : ∀ m : BitVec 3, locOf (BitVec.ofNat 16 (0x050 + 4 * m.toNat)) = .reg (.pen m) ∧
      misaligned (BitVec.ofNat 16 (0x050 + 4 * m.toNat)) = false := by decide
  have hread : ∀ (a : Addr) (r : Reg) (w : Word), locOf a = .reg r → misaligned a = false →
      s.readReg r = w → f a = some ⟨w, true⟩ := fun a r w hl ha hw => by
    rw [hf, hostRead_reg hb r hl ha, hw]
  exact ⟨hread _ .id _ rfl rfl rfl, hread _ .rev _ rfl rfl rfl, hread _ .cmd _ rfl rfl rfl,
    hread _ .status _ rfl rfl rfl, hread _ .ctrl _ rfl rfl (ctrlWord_eq s),
    hread _ .cfg _ rfl rfl (cfgWord_eq s.cfg), hread _ .dlen _ rfl rfl (BitVec.ofNat_toNat _ _).symm,
    hread _ .gfA _ rfl rfl (BitVec.ofNat_toNat _ _).symm, hread _ .gfB _ rfl rfl (BitVec.ofNat_toNat _ _).symm,
    hread _ .gfRes _ rfl rfl (BitVec.ofNat_toNat _ _).symm, hread _ .ntotal _ rfl rfl (BitVec.ofNat_toNat _ _).symm,
    hread _ .ndata _ rfl rfl (BitVec.ofNat_toNat _ _).symm, hread _ .blocks _ rfl rfl rfl,
    hread _ .remBits _ rfl rfl (BitVec.ofNat_toNat _ _).symm, hread _ .side _ rfl rfl (BitVec.ofNat_toNat _ _).symm,
    hread _ .maskSel _ rfl rfl (maskSelWord_eq s.maskSel),
    hread _ .penvalid _ rfl rfl (BitVec.ofNat_toNat _ _).symm,
    hread _ .fmtBits _ rfl rfl (BitVec.ofNat_toNat _ _).symm,
    hread _ .verBits _ rfl rfl (BitVec.ofNat_toNat _ _).symm,
    fun m => hread _ (.pen m) _ (hpen m).1 (hpen m).2 rfl, hread _ .pd1 _ rfl rfl rfl,
    hread _ .pd2 _ rfl rfl rfl, hread _ .pd3 _ rfl rfl rfl, hread _ .pd4 _ rfl rfl rfl⟩

end Sys2Proof.Machine
end

section
/-! SUPPORT. The address map region by region, the accesses the bus fails, and the turns of a step: O7,
O41 and O42. -/

namespace Sys2Proof.Machine

/-! ### The regions of the address map (R59) -/

/-- The first address of a buffer (R59). -/
def Buffer.base : Buffer → Nat
  | .data => dataBase
  | .ecc => eccBase
  | .gen => genBase
  | .cw => cwBase

/-- The size of a buffer in bytes (R34). -/
def Buffer.size : Buffer → Nat
  | .data => dataBufSize
  | .ecc => eccBufSize
  | .gen => genBufSize
  | .cw => cwBufSize

/-- The address lies in the buffer. -/
def Buffer.Holds (b : Buffer) (n : Nat) : Prop := b.base ≤ n ∧ n < b.base + b.size

@[simp] theorem Buffer.data_holds (n : Nat) : Buffer.data.Holds n ↔ 0x1000 ≤ n ∧ n < 0x2000 := Iff.rfl
@[simp] theorem Buffer.ecc_holds (n : Nat) : Buffer.ecc.Holds n ↔ 0x2000 ≤ n ∧ n < 0x2100 := Iff.rfl
@[simp] theorem Buffer.gen_holds (n : Nat) : Buffer.gen.Holds n ↔ 0x2100 ≤ n ∧ n < 0x2200 := Iff.rfl
@[simp] theorem Buffer.cw_holds (n : Nat) : Buffer.cw.Holds n ↔ 0x3000 ≤ n ∧ n < 0x4000 := Iff.rfl

/-- A buffer begins and ends at a word, so that it holds the whole word at each of its aligned addresses. -/
theorem Buffer.Holds.word_end {b : Buffer} {n : Nat} (h : b.Holds n) (hn : n % 4 = 0) : b.Holds (n + 3) := by
  cases b <;> simp only [data_holds, ecc_holds, gen_holds, cw_holds] at h ⊢ <;> omega

/-- The buffers lie below the MAT window. -/
theorem Buffer.Holds.lt_window {b : Buffer} {n : Nat} (h : b.Holds n) : n < 0x4000 := by
  cases b <;> simp only [data_holds, ecc_holds, gen_holds, cw_holds] at h <;> omega

/-- No two buffers overlap. -/
theorem Buffer.disjoint {b b' : Buffer} (h : b ≠ b') :
    b.base + b.size ≤ b'.base ∨ b'.base + b'.size ≤ b.base := by
  cases b <;> cases b' <;> revert h <;> decide

/-- The gaps above the registers where R59 maps nothing. -/
def InGap (n : Nat) : Prop :=
  (0x80 ≤ n ∧ n < 0x1000) ∨ (0x2200 ≤ n ∧ n < 0x3000) ∨ (0x4000 ≤ n ∧ n < 0x8000)

theorem locOf_register {a : Addr} (h : a.toNat < 0x80) : locOf a = regAt a.toNat := if_pos h

theorem locOf_buffer {a : Addr} {b : Buffer} (h : b.Holds a.toNat) : locOf a = .buffer b a.toNat := by
  cases b <;> simp only [Buffer.data_holds, Buffer.ecc_holds, Buffer.gen_holds, Buffer.cw_holds] at h <;>
    simp (disch := omega) only [locOf, if_pos, if_neg]

theorem locOf_window {a : Addr} (h : 0x8000 ≤ a.toNat) : locOf a = .mat (a.toNat - 0x8000) := by
  simp (disch := omega) only [locOf, if_neg]

theorem locOf_gap {a : Addr} (h : InGap a.toNat) : locOf a = .unmapped := by
  obtain h | h | h := h <;> simp (disch := omega) only [locOf, if_pos, if_neg]

/-- Every address is in one region. -/
theorem region_cases (n : Nat) :
    n < 0x80 ∨ (∃ b : Buffer, b.Holds n) ∨ 0x8000 ≤ n ∨ InGap n := by
  by_contra h
  simp only [not_or, not_exists, InGap] at h
  obtain ⟨hreg, hbuf, hwin, hgap⟩ := h
  have hdata := mt (Buffer.data_holds n).2 (hbuf .data)
  have hecc := mt (Buffer.ecc_holds n).2 (hbuf .ecc)
  have hgen := mt (Buffer.gen_holds n).2 (hbuf .gen)
  have hcw := mt (Buffer.cw_holds n).2 (hbuf .cw)
  omega

/-- Which register offsets are unmapped, read-only, or locked while BUSY = 1 (R18, R50, R51). -/
theorem regAt_kinds : ∀ n < 0x80, n % 4 = 0 →
    (regAt n = .unmapped ↔ n = 0x4C) ∧
    ((regAt n).readOnly = true ↔ n < 0x08 ∨ (0x24 ≤ n ∧ n < 0x4C) ∨ 0x50 ≤ n) ∧
    ((regAt n).lockedWhileBusy = true ↔ n = 0x08 ∨ n = 0x14 ∨ n = 0x18 ∨ n = 0x1C ∨ n = 0x20) := by
  decide

/-- Which aligned addresses are unmapped, read-only, or locked while BUSY = 1 (R49 to R51, R59). -/
theorem locOf_kinds {a : Addr} (ha : a.toNat % 4 = 0) :
    (locOf a = .unmapped ↔ UnmappedAddr a) ∧ ((locOf a).readOnly = true ↔ ReadOnlyAddr a) ∧
      ((locOf a).lockedWhileBusy = true ↔ LockedAddr a) := by
  obtain h | ⟨b, h⟩ | h | h := region_cases a.toNat
  · obtain ⟨hu, hr, hl⟩ := regAt_kinds _ h ha
    rw [locOf_register h, hu, hr, hl]
    omega
  · rw [locOf_buffer h]
    cases b <;>
      simp only [Buffer.data_holds, Buffer.ecc_holds, Buffer.gen_holds, Buffer.cw_holds] at h <;>
      simp only [Loc.readOnly, Loc.lockedWhileBusy, reduceCtorEq, true_iff, false_iff] <;> omega
  · rw [locOf_window h]
    simp only [Loc.readOnly, Loc.lockedWhileBusy, reduceCtorEq, true_iff, false_iff]
    omega
  · rw [locOf_gap h]
    simp only [Loc.readOnly, Loc.lockedWhileBusy, reduceCtorEq, true_iff, false_iff]
    unfold InGap at h
    omega

/-! ### Accesses that fail (R48 to R52) -/

theorem misaligned_eq_true {a : Addr} : misaligned a = true ↔ a.toNat % 4 ≠ 0 := by
  rw [← Bool.not_eq_false, Ne, ← misaligned_eq_false]

theorem hostWrite_of_error {s : State} {a : Addr} {e : BusError} (d : Word) (h : writeError s a = some e) :
    s.hostWrite a d = (s.busError e).respond 0 false := by
  rw [State.hostWrite, h]

theorem hostRead_of_error {s : State} {a : Addr} {e : BusError} (h : readError a = some e) :
    s.hostRead a = (s.busError e).respond 0 false := by
  rw [State.hostRead, h]

/-- The first two checks of a write are those of a read (R52). -/
theorem writeError_of_readError {a : Addr} {e : BusError} (s : State) (h : readError a = some e) :
    writeError s a = some e := by
  unfold readError at h
  unfold writeError
  split_ifs at h with hm hu
  · rw [if_pos hm, h]
  · rw [if_neg hm, if_pos hu, h]

theorem readError_misaligned {a : Addr} (h : a.toNat % 4 ≠ 0) : readError a = some .misaligned :=
  if_pos (misaligned_eq_true.2 h)

theorem readError_aligned {a : Addr} (h : a.toNat % 4 = 0) :
    readError a = if UnmappedAddr a then some .unmapped else none := by
  rw [readError, (misaligned_eq_false a).2 h, if_neg Bool.false_ne_true]
  exact if_congr (locOf_kinds h).1 rfl rfl

/-- Settles O41: a failing read's error is also the write's, and the map says which addresses fail. -/
theorem failedAccesses : Obligations.FailedAccesses := by
  have hfail : ∀ (s : State) (a : Addr) (d : Word) (e : BusError), readError a = some e →
      (∃ x, s.hostWrite a d = (s.busError e).respond x false) ∧
        s.hostRead a = (s.busError e).respond 0 false := fun s _ d _ h =>
    ⟨⟨0, hostWrite_of_error d (writeError_of_readError s h)⟩, hostRead_of_error h⟩
  refine ⟨fun _ _ => rfl, ⟨rfl, rfl, rfl, rfl⟩, fun s a d => ⟨fun ha => ?_, fun ha => ?_⟩⟩
  · exact hfail s a d _ (readError_misaligned ha)
  · exact hfail s a d _ ((readError_aligned ha.1).trans (if_pos ha))

/-! ### Writes that are refused (R50, R51) -/

theorem writeError_readOnly {a : Addr} (s : State) (h : ReadOnlyAddr a) :
    writeError s a = some .readOnly := by
  obtain ⟨hu, hr, -⟩ := locOf_kinds h.1
  have hu' : locOf a ≠ .unmapped := fun he => by
    rw [he] at hr
    cases hr.2 h
  simp [writeError, (misaligned_eq_false a).2 h.1, hu', hr.2 h]

theorem writeError_locked {a : Addr} {s : State} (h : LockedAddr a) (hb : s.busy = true) :
    writeError s a = some .busyWrite := by
  obtain ⟨hu, hr, hl⟩ := locOf_kinds h.1
  have hu' : ¬ locOf a = .unmapped := by
    rw [hu]
    omega
  have hr' : ¬ (locOf a).readOnly = true := by
    rw [hr]
    omega
  simp [writeError, (misaligned_eq_false a).2 h.1, hu', hr', hl.2 h, hb]

/-- Settles O42: the map says which locations are read-only and which are locked; STATUS and CTRL are
neither. -/
theorem refusedWrites : Obligations.RefusedWrites := by
  refine fun s a d => ⟨fun h => ⟨0, hostWrite_of_error d (writeError_readOnly s h)⟩,
    fun h hb => ⟨0, hostWrite_of_error d (writeError_locked h hb)⟩, ?_⟩
  rintro (rfl | rfl)
  · exact ⟨0, by rw [hostWrite_of_loc (.reg .status) d rfl (by decide) (by decide) rfl (.inr rfl)]; rfl⟩
  · exact ⟨0, by rw [hostWrite_of_loc (.reg .ctrl) d rfl (by decide) (by decide) rfl (.inr rfl)]; rfl⟩

/-! ### Turns (R47, R62, R146, R147) -/

theorem step_host {s : State} {a : Access} {ts : List Turn} (h : s.agenda = .host a :: ts) :
    step s = .next ({ s with agenda := ts }.hostAccess a) := by
  simp [step, State.dropTurn, h]

theorem step_hardReset {s : State} {ts : List Turn} (h : s.agenda = .hardReset :: ts) :
    step s = .next { s with agenda := ts }.hardReset := by
  simp [step, State.dropTurn, h]

theorem step_core {s : State} {ts : List Turn} (h : s.agenda = .core :: ts) :
    step s = coreStep { s with agenda := ts } := by
  simp [step, State.dropTurn, h]

theorem step_no_turn {s : State} (h : s.agenda = []) : step s = coreStep s := by
  simp [step, h]

theorem coreStep_idle {s : State} (h : s.pendcmd = none) : coreStep s = .next s := by
  simp [coreStep, State.fetch, h]

/-- Settles O7: each kind of turn, and the core's turn with nothing pending. -/
theorem hostResetAndIdleTurns : Obligations.HostResetAndIdleTurns := fun _ _ =>
  ⟨fun _ => step_host, step_hardReset, fun hp h => (step_core h).trans (coreStep_idle hp),
    fun hp h => (step_no_turn h).trans (coreStep_idle hp), step_no_turn, step_core⟩

end Sys2Proof.Machine
end

section
/-! SUPPORT. The bytes of a word and of a location, what a read draws, and the write of a DATA_BUF word:
O45 and O51. -/

namespace Sys2Proof.Machine

/-! ### The four bytes of a word (R53) -/

/-- Byte k of four bytes packed into a word is the byte k. -/
theorem extractLsb'_bytesWord (f : Nat → Byte) : ∀ k < 4,
    (bytesWord (f 0) (f 1) (f 2) (f 3)).extractLsb' (8 * k) 8 = f k := by
  have hw : (bytesWord (f 0) (f 1) (f 2) (f 3)).toNat =
      (f 0).toNat + 256 * (f 1).toNat + 65536 * (f 2).toNat + 16777216 * (f 3).toNat := by
    rw [bytesWord]
    simp only [toNat_append_eq_add]
    omega
  intro k hk
  apply extractLsb'_eq_of_toNat
  rw [hw]
  interval_cases k <;> omega

/-- The bytes of a word packed again are the word. -/
theorem bytesWord_extractLsb' (d : Word) :
    bytesWord (d.extractLsb' 0 8) (d.extractLsb' 8 8) (d.extractLsb' 16 8) (d.extractLsb' 24 8) = d := by
  apply BitVec.eq_of_toNat_eq
  rw [bytesWord]
  simp only [toNat_append_eq_add, BitVec.extractLsb'_toNat, Nat.shiftRight_eq_div_pow]
  omega

/-- Byte k of a word is entry k of its bytes. -/
theorem getElem?_wordBytes (d : Word) : ∀ k < 4, (wordBytes d)[k]? = some (d.extractLsb' (8 * k) 8) := by
  intro k hk
  interval_cases k <;> rfl

/-! ### The bytes of the buffers and of the MAT window (R36, R59) -/

theorem memByte_of_lt {s : State} {x : Nat} (h : x < 0x8000) : s.memByte x = s.byteAt x :=
  if_neg (Nat.not_le.2 h)

theorem memByte_window (s : State) (i : Nat) : s.memByte (0x8000 + i) = s.matByte i := by
  refine (if_pos (Nat.le_add_right matBase i)).trans ?_
  rw [matBase, Nat.add_sub_cancel_left]

/-- Window bytes past the last cell are 0 (R36). -/
theorem matByte_past {s : State} {i : Nat} (h : matCells ≤ i) : s.matByte i = 0 :=
  if_neg (Nat.not_lt.2 h)

/-- Cell (r, c) is byte 177r + c of the window (R36). -/
theorem matByte_cell {s : State} {r c : Nat} (hr : r < 177) (hc : c < 177) :
    s.matByte (r * 177 + c) = (Mat.cell s.mat r c).toByte := by
  have hlt : r * 177 + c < matCells := by
    simp only [matCells]
    omega
  have hdiv : (r * 177 + c) / maxSide = r := by
    simp only [maxSide]
    omega
  have hmod : (r * 177 + c) % maxSide = c := by
    simp only [maxSide]
    omega
  rw [State.matByte, if_pos hlt, hdiv, hmod]

/-- The bits of a cell's byte (R36). -/
theorem MCell.toByte_bits (x : MCell) :
    x.toByte.getLsbD 0 = x.dark ∧ x.toByte.getLsbD 1 = x.set ∧ x.toByte.getLsbD 2 = x.func ∧
      x.toByte.extractLsb' 3 5 = 0 := by
  obtain ⟨set, dark, func⟩ := x
  revert set dark func
  decide

theorem readLoc_buffer_byte (s : State) (b : Buffer) (x : Nat) :
    ∀ k < 4, (s.readLoc (.buffer b x)).extractLsb' (8 * k) 8 = s.byteAt (x + k) :=
  extractLsb'_bytesWord fun j => s.byteAt (x + j)

theorem readLoc_window_byte (s : State) (i : Nat) :
    ∀ k < 4, (s.readLoc (.mat i)).extractLsb' (8 * k) 8 = s.matByte (i + k) :=
  extractLsb'_bytesWord fun j => s.matByte (i + j)

/-- Byte k of the word at an aligned buffer or window address is the byte at the address plus k (R53). -/
theorem readLoc_bytes {s : State} {a : Addr} (ha : a.toNat % 4 = 0)
    (h : (∃ b : Buffer, b.Holds a.toNat) ∨ 0x8000 ≤ a.toNat) :
    ∀ k < 4, (s.readLoc (locOf a)).extractLsb' (8 * k) 8 = s.memByte (a.toNat + k) := by
  intro k hk
  obtain ⟨b, h⟩ | h := h
  · have hx := h.lt_window
    rw [locOf_buffer h, memByte_of_lt (by omega)]
    exact readLoc_buffer_byte s b a.toNat k hk
  · have hx : a.toNat + k = 0x8000 + (a.toNat - 0x8000 + k) := by omega
    rw [locOf_window h, hx, memByte_window]
    exact readLoc_window_byte s _ k hk

/-! ### Reads and what they draw (R57, R58) -/

/-- A read is exact on every bit that is not drawn. -/
theorem readValue_and {s : State} {l : Loc} {m : Word} (h : s.drawMaskOf l &&& m = 0) :
    s.readValue l &&& m = s.readLoc l &&& m := by
  ext i hi
  cases hm : m[i] with
  | false => simp [hm]
  | true =>
    have hd : (s.drawMaskOf l)[i] = false := by simpa [hm] using congrArg (·[i]) h
    simp [State.readValue, hd]

/-- Where nothing is drawn a read gives the exact value and counts no draw. -/
theorem read_of_undrawn {s : State} {l : Loc} (h : s.drawMaskOf l = 0) :
    s.readValue l = s.readLoc l ∧ s.countDraw l = s := by
  refine ⟨?_, if_pos h⟩
  have hall := readValue_and (s := s) (l := l) (m := BitVec.allOnes 32) (by simp [h])
  rwa [BitVec.and_allOnes, BitVec.and_allOnes] at hall

theorem drawMaskOf_idle {s : State} (hb : s.busy = false) (l : Loc) : s.drawMaskOf l = 0 := by
  have hp : s.pendcmd = none := by simpa [State.busy] using hb
  rw [State.drawMaskOf, hp]

/-- A location outside the write set that is not STATUS is not drawn. -/
theorem drawMaskOf_unwritten {s : State} {w : Word} {l : Loc} (hp : s.pendcmd = some w)
    (hs : l ≠ .reg .status) (hw : inWriteSet (opField w) l = false) : s.drawMaskOf l = 0 := by
  rw [State.drawMaskOf, hp]
  simp only
  unfold drawMask
  split
  · exact absurd rfl hs
  · exact if_neg (by simp [hw])
  · exact if_neg (by simp [hw])

theorem drawMask_status (op : BitVec 8) : drawMask op (.reg .status) = statusDrawMask := by
  rw [drawMask]

/-- Of STATUS at most CWV, MSTAGE, SELV and LASTOP are drawn. -/
theorem drawMaskOf_status (s : State) : s.drawMaskOf (.reg .status) &&& 0x00FFFE0F = 0 := by
  unfold State.drawMaskOf
  split
  · exact BitVec.zero_and
  · rw [drawMask_status]
    decide

/-- A read of a mapped address answers its value and counts the draw. -/
theorem hostRead_of_mapped {s : State} {a : Addr} (ha : a.toNat % 4 = 0) (hu : ¬ UnmappedAddr a) :
    s.hostRead a = (s.countDraw (locOf a)).respond (s.readValue (locOf a)) true := by
  rw [State.hostRead, readError_aligned ha, if_neg hu]

/-- A read of a mapped address changes the response and the draw count only (R57). -/
theorem hostRead_frame {s : State} {a : Addr} (ha : a.toNat % 4 = 0) (hu : ¬ UnmappedAddr a) :
    s.hostRead a =
      { s with resp := some ⟨s.readValue (locOf a), true⟩, draws := (s.hostRead a).draws } := by
  rw [hostRead_of_mapped ha hu]
  unfold State.countDraw
  split <;> rfl

/-- Settles O51: the read of a mapped address, its drawn bits, and the bytes behind a location. -/
theorem readsChangeNothingAndAreExact : Obligations.ReadsChangeNothingAndAreExact := by
  intro s
  refine ⟨fun a ha hu => ⟨s.readValue (locOf a), hostRead_frame ha hu, fun hb => ?_, fun w hp hs hw => ?_,
    fun hs => ?_⟩, fun a ha hr => readLoc_bytes ha ?_, fun r c hr hc => ?_, fun x hx => ?_⟩
  · obtain ⟨hv, hd⟩ := read_of_undrawn (drawMaskOf_idle hb (locOf a))
    exact ⟨hv, by rw [hostRead_of_mapped ha hu, hd, respond_draws]⟩
  · exact (read_of_undrawn (drawMaskOf_unwritten hp hs hw)).1
  · rw [hs]
    exact readValue_and (drawMaskOf_status s)
  · obtain h | ⟨b, h⟩ | h | h := region_cases a.toNat
    · omega
    · exact .inl ⟨b, h⟩
    · exact .inr h
    · unfold InGap at h
      omega
  · rw [Nat.add_assoc, memByte_window, matByte_cell hr hc]
    exact MCell.toByte_bits _
  · obtain ⟨i, rfl⟩ := Nat.exists_eq_add_of_le (show 0x8000 ≤ x by omega)
    rw [memByte_window]
    exact matByte_past (by simp only [matCells]; omega)

/-! ### The write of a DATA_BUF word (R31, R53) -/

theorem writeData_byte {s : State} (hm : Memory.Wf s.mem) (a : Nat) (d : Word) :
    ∀ k < 4, (s.writeData a d).byteAt (a + k) = d.extractLsb' (8 * k) 8 := by
  intro k hk
  refine (byteAt_memWrite hm a 0 (wordBytes d) (a + k)).trans ?_
  rw [if_neg (by omega), Nat.add_zero, Nat.add_sub_cancel_left, getElem?_wordBytes d k hk, Option.getD_some]

theorem writeData_memByte_other {s : State} (hm : Memory.Wf s.mem) {a x : Nat} (d : Word)
    (h : x < a ∨ a + 4 ≤ x) : (s.writeData a d).memByte x = s.memByte x := by
  have hb : (s.writeData a d).byteAt x = s.byteAt x := byteAt_memWrite_outside hm a 0 (wordBytes d) x h
  have hw : (s.writeData a d).matByte (x - matBase) = s.matByte (x - matBase) := rfl
  rw [State.memByte, State.memByte, hb, hw]

/-- The word of a DATA_BUF address right after its write is the one written. -/
theorem writeData_readLoc {s : State} (hm : Memory.Wf s.mem) (a : Nat) (d : Word) :
    (s.writeData a d).readLoc (.buffer .data a) = d := by
  have h := writeData_byte hm a d
  have h0 : (s.writeData a d).byteAt a = d.extractLsb' 0 8 := h 0 (by omega)
  rw [State.readLoc, h0, h 1 (by omega), h 2 (by omega), h 3 (by omega)]
  exact bytesWord_extractLsb' d

/-- Settles O45: the write's bytes, and the read of its location while BUSY = 0. -/
theorem dataBufWriteReadBack : Obligations.DataBufWriteReadBack := by
  intro s a d hm hb ha h1 h2
  have hl : locOf a = .buffer .data a.toNat := locOf_buffer ((Buffer.data_holds _).2 ⟨h1, h2⟩)
  refine ⟨(s.writeData a.toNat d).respond 0 true,
    hostWrite_of_loc _ d hl ((misaligned_eq_false a).2 ha) (by simp) rfl (.inl hb), ⟨0, rfl⟩,
    fun k hk => ?_, fun x hx => writeData_memByte_other hm d hx, ?_⟩
  · rw [memByte_of_lt (by omega)]
    exact writeData_byte hm a.toNat d k hk
  · have hb' : ((s.writeData a.toNat d).respond 0 true).busy = false := hb
    rw [hostRead_of_mapped ha (by omega), respond_resp, readValue_of_idle hb', hl]
    exact congrArg (fun w => some (BusResp.mk w true)) (writeData_readLoc hm a.toNat d)

end Sys2Proof.Machine
end

section
/-! SUPPORT. What the body of a command can do to the registers, the buffers and the matrix, and that it
stays inside the write set of R58: O52. -/

namespace Sys2Proof.Machine

/-! ### Registers, buffers and matrix after a body -/

/-- A body leaves every register but STATUS and those of its write set. -/
theorem runBody_readReg {i : Instr} {r : Reg} (s : State) (hs : r ≠ .status)
    (hw : inWriteSet i.op (.reg r) = false) : (runBody i s).readReg r = s.readReg r := by
  cases i with
  | nop | rsgen | rsenc | mfunc | mdata =>
    cases r with
    | status => exact absurd rfl hs
    | _ => rfl
  | gfadd | gfmul | gfexp | gflog =>
    cases r with
    | status => exact absurd rfl hs
    | gfRes => cases hw
    | _ => rfl
  | eccode =>
    cases r with
    | status => exact absurd rfl hs
    | ntotal | ndata | blocks | remBits => cases hw
    | _ => rfl
  | minit =>
    cases r with
    | status => exact absurd rfl hs
    | side | penvalid => cases hw
    | _ => rfl
  | mscore | meval =>
    cases r with
    | status => exact absurd rfl hs
    | pen | pd1 | pd2 | pd3 | pd4 | penvalid | maskSel => cases hw
    | _ => rfl
  | mapply | mapsel =>
    cases r with
    | status => exact absurd rfl hs
    | maskSel | fmtBits | verBits => cases hw
    | _ => rfl
  | encode =>
    cases r with
    | status => exact absurd rfl hs
    | ntotal | ndata | blocks | remBits | side | penvalid => cases hw
    | pen | pd1 | pd2 | pd3 | pd4 | maskSel | fmtBits | verBits => cases hw
    | _ => rfl

theorem runBody_epoch (i : Instr) (s : State) : (runBody i s).epoch = s.epoch := by
  cases i <;> rfl

/-- A body leaves the buffers, or fills one buffer of its write set with bytes that fit. -/
theorem runBody_mem {i : Instr} {s : State} (hr : Runs i s) :
    (runBody i s).mem = s.mem ∨
    ∃ (b : Buffer) (vs : List Byte), (∀ x, inWriteSet i.op (.buffer b x) = true) ∧ vs.length ≤ b.size ∧
      (runBody i s).mem = (s.fillBuffer b.base b.size vs).mem := by
  cases i with
  | nop | gfadd | gfmul | gfexp | gflog | minit | mfunc | mdata | mscore | meval | mapply | mapsel =>
    exact .inl rfl
  | rsgen n => exact .inr ⟨.gen, genpoly n.toNat, fun _ => rfl, length_rsgen_le hr.2, rfl⟩
  | rsenc n k => exact .inr ⟨.ecc, _, fun _ => rfl, length_rsenc_le hr.2.1, rfl⟩
  | eccode | encode => exact .inr ⟨.cw, s.codewords, fun _ => rfl, length_codewords_le hr.1, rfl⟩

theorem cell_writtenByMinit {x : Nat} (h : isMatCell (.mat x) = true) : writtenByMinit (.mat x) = true := by
  simp [writtenByMinit, h]

theorem cell_writtenByApply {x : Nat} (h : isMatCell (.mat x) = true) : writtenByApply (.mat x) = true := by
  simp [writtenByApply, h]

/-- A body leaves the matrix, or every cell is in its write set. -/
theorem runBody_mat (i : Instr) (s : State) :
    (runBody i s).mat = s.mat ∨ ∀ x, isMatCell (.mat x) = true → inWriteSet i.op (.mat x) = true := by
  cases i with
  | nop | gfadd | gfmul | gfexp | gflog | rsgen | rsenc | eccode | mscore | meval => exact .inl rfl
  | minit => exact .inr fun _ => cell_writtenByMinit
  | mfunc | mdata => exact .inr fun _ => id
  | mapply | mapsel => exact .inr fun _ => cell_writtenByApply
  | encode => exact .inr fun _ hx => Bool.or_eq_true_iff.2 (.inr (cell_writtenByApply hx))

/-! ### Locations after a command -/

theorem byteAt_congr {s t : State} (hm : t.mem = s.mem) (he : t.epoch = s.epoch) (x : Nat) :
    t.byteAt x = s.byteAt x := by
  rw [State.byteAt, State.byteAt, hm, he]

/-- A body leaves every byte of a buffer that is not in its write set. -/
theorem runBody_byteAt {i : Instr} {s : State} (hr : Runs i s) (hm : Memory.Wf s.mem) {b : Buffer}
    {a x : Nat} (hx : b.Holds x) (hw : inWriteSet i.op (.buffer b a) = false) :
    (runBody i s).byteAt x = s.byteAt x := by
  obtain h | ⟨b', vs, hin, hlen, h⟩ := runBody_mem hr
  · exact byteAt_congr h (runBody_epoch i s) x
  · rw [byteAt_congr (t := runBody i s) h (runBody_epoch i s) x]
    have hne : b' ≠ b := fun he => by
      rw [← he, hin] at hw
      cases hw
    obtain ⟨h1, h2⟩ := hx
    refine byteAt_memWrite_outside hm _ 0 _ x ?_
    rw [length_fill hlen]
    have := Buffer.disjoint hne
    omega

/-- A body leaves every byte of the MAT window from a location that is not in its write set on. -/
theorem runBody_matByte {i : Instr} (s : State) {a x : Nat} (hx : a ≤ x)
    (hw : inWriteSet i.op (.mat a) = false) : (runBody i s).matByte x = s.matByte x := by
  obtain h | h := runBody_mat i s
  · rw [State.matByte, State.matByte, h]
  · have ha : ¬ a < matCells := fun ha => by
      rw [h a (decide_eq_true ha)] at hw
      cases hw
    rw [matByte_past (by omega), matByte_past (by omega)]

/-- The four bytes of a buffer word lie in the buffer: so it is at every aligned address. -/
def Loc.WordInside : Loc → Prop
  | .buffer b x => b.Holds x ∧ b.Holds (x + 3)
  | _ => True

theorem locOf_wordInside {a : Addr} (ha : a.toNat % 4 = 0) : (locOf a).WordInside := by
  obtain h | ⟨b, h⟩ | h | h := region_cases a.toNat
  · rw [locOf_register h, regAt]
    split <;> trivial
  · rw [locOf_buffer h]
    exact ⟨h, h.word_end ha⟩
  · rw [locOf_window h]
    trivial
  · rw [locOf_gap h]
    trivial

/-- A body leaves every location but STATUS and those of its write set. -/
theorem runBody_readLoc {i : Instr} {s : State} (hr : Runs i s) (hm : Memory.Wf s.mem) {l : Loc}
    (hl : l.WordInside) (hs : l ≠ .reg .status) (hw : inWriteSet i.op l = false) :
    (runBody i s).readLoc l = s.readLoc l := by
  cases l with
  | reg r => exact runBody_readReg s (fun h => hs (congrArg Loc.reg h)) hw
  | buffer b x =>
    obtain ⟨⟨h1, -⟩, -, h2⟩ := hl
    have hb : ∀ k ≤ 3, (runBody i s).byteAt (x + k) = s.byteAt (x + k) := fun k hk =>
      runBody_byteAt hr hm ⟨by omega, by omega⟩ hw
    rw [State.readLoc, State.readLoc, hb 1 (by omega), hb 2 (by omega), hb 3 (by omega)]
    exact congrArg (bytesWord · _ _ _) (hb 0 (by omega))
  | mat a =>
    have hb : ∀ k, (runBody i s).matByte (a + k) = s.matByte (a + k) := fun k =>
      runBody_matByte s (by omega) hw
    rw [State.readLoc, State.readLoc, hb 1, hb 2, hb 3]
    exact congrArg (bytesWord · _ _ _) (hb 0)
  | unmapped => rfl

/-- STATUS and PENDCMD are read at STATUS only. -/
theorem readLoc_status_pendcmd (s : State) (x : Status) (p : Option Word) {l : Loc} (hs : l ≠ .reg .status) :
    State.readLoc { s with status := x, pendcmd := p } l = s.readLoc l := by
  cases l with
  | reg r =>
    cases r with
    | status => exact absurd rfl hs
    | _ => rfl
  | buffer | mat | unmapped => rfl

/-- Settles O52: the effect of a command that runs stays in its write set, and the completions write
STATUS only. -/
theorem commandsChangeOnlyTheirWriteSet : Obligations.CommandsChangeOnlyTheirWriteSet := by
  intro i s t a hm ht ha hs hw
  obtain ⟨hr, rfl⟩ | ⟨-, e, rfl⟩ := exec_cases ht
  · exact (readLoc_status_pendcmd _ _ none hs).trans (runBody_readLoc hr hm (locOf_wordInside ha) hs hw)
  · exact readLoc_status_pendcmd s _ none hs

end Sys2Proof.Machine
end

section
/-! SUPPORT. Command words by fields: a word is its fields, a row of the opcode map matches a word exactly
when the row's command has the word's fields, and so decoding and encoding agree: O1 to O4 and O6 (spec
30_encoding.md R67 to R72). -/

namespace Sys2Proof

open Machine

/-! ### A word is its fields (R68) -/

@[simp] theorem CmdFields.ofWord_toWord (f : CmdFields) : CmdFields.ofWord f.toWord = f := by
  obtain ⟨op, m, z, n, k⟩ := f
  simp only [CmdFields.ofWord, CmdFields.toWord, CmdFields.mk.injEq]
  refine ⟨?_, ?_, ?_, ?_, ?_⟩ <;> ext i hi <;> grind

@[simp] theorem CmdFields.toWord_ofWord (w : Word) : (CmdFields.ofWord w).toWord = w := by
  simp only [CmdFields.ofWord, CmdFields.toWord]
  ext i hi
  grind

theorem CmdFields.ofWord_injective : Function.Injective CmdFields.ofWord :=
  Function.LeftInverse.injective CmdFields.toWord_ofWord

/-- Every command is well-formed, and its word carries exactly its fields. -/
theorem Instr.fieldsOfWord (i : Instr) : Laws.FieldsOfWord.Statement i := by
  cases i with
  | nop => exact Laws.FieldsOfWord.nop
  | gfadd => exact Laws.FieldsOfWord.gfadd
  | gfmul => exact Laws.FieldsOfWord.gfmul
  | gfexp => exact Laws.FieldsOfWord.gfexp
  | gflog => exact Laws.FieldsOfWord.gflog
  | rsgen n => exact Laws.FieldsOfWord.rsgen n
  | rsenc n k => exact Laws.FieldsOfWord.rsenc n k
  | eccode => exact Laws.FieldsOfWord.eccode
  | minit => exact Laws.FieldsOfWord.minit
  | mfunc => exact Laws.FieldsOfWord.mfunc
  | mdata => exact Laws.FieldsOfWord.mdata
  | mscore m => exact Laws.FieldsOfWord.mscore m
  | meval => exact Laws.FieldsOfWord.meval
  | mapply m => exact Laws.FieldsOfWord.mapply m
  | mapsel => exact Laws.FieldsOfWord.mapsel
  | encode => exact Laws.FieldsOfWord.encode

/-- The word of a command is the only word with the command's fields. -/
theorem ofWord_eq_fields_iff {w : Word} {i : Instr} : CmdFields.ofWord w = i.fields ↔ encode i = w := by
  rw [i.fieldsOfWord.2, ← CmdFields.ofWord_injective.eq_iff, CmdFields.ofWord_toWord, eq_comm]

/-- The fields with Z and every unused field set to 0 (R71). -/
def CmdFields.used (f : CmdFields) : CmdFields where
  op := f.op
  m := if f.usesM then f.m else 0
  z := 0
  n := if f.usesN then f.n else 0
  k := if f.usesK then f.k else 0

theorem CmdFields.wellFormed_iff (f : CmdFields) :
    f.wellFormed = true ↔ f.op ∈ CmdFields.definedOps ∧ f.used = f := by
  obtain ⟨op, m, z, n, k⟩ := f
  simp only [CmdFields.wellFormed, CmdFields.opDefined, CmdFields.used, Bool.and_eq_true, Bool.or_eq_true,
    beq_iff_eq, List.contains_iff_mem, CmdFields.mk.injEq]
  grind

/-- Each defined OP has a command with every value of the fields it uses (R70). -/
theorem exists_fields_eq_used {f : CmdFields} (h : f.op ∈ CmdFields.definedOps) :
    ∃ i : Instr, i.fields = f.used := by
  obtain ⟨op, m, z, n, k⟩ := f
  revert op
  simp only [CmdFields.definedOps, List.forall_mem_cons]
  exact ⟨⟨.nop, rfl⟩, ⟨.gfadd, rfl⟩, ⟨.gfmul, rfl⟩, ⟨.gfexp, rfl⟩, ⟨.gflog, rfl⟩, ⟨.rsgen n, rfl⟩,
    ⟨.rsenc n k, rfl⟩, ⟨.eccode, rfl⟩, ⟨.minit, rfl⟩, ⟨.mfunc, rfl⟩, ⟨.mdata, rfl⟩, ⟨.mscore m, rfl⟩,
    ⟨.meval, rfl⟩, ⟨.mapply m, rfl⟩, ⟨.mapsel, rfl⟩, ⟨.encode, rfl⟩, List.forall_mem_nil _⟩

/-- The well-formed fields are those of the commands. -/
theorem wellFormed_iff_exists_fields (f : CmdFields) : f.wellFormed = true ↔ ∃ i : Instr, f = i.fields := by
  constructor
  · intro h
    obtain ⟨hop, hu⟩ := f.wellFormed_iff.1 h
    obtain ⟨i, hi⟩ := exists_fields_eq_used hop
    exact ⟨i, (hi.trans hu).symm⟩
  · rintro ⟨i, rfl⟩
    exact i.fieldsOfWord.1

/-! ### The rows of the opcode map (R70, R71) -/

/-- A mask acts on each field by itself. -/
theorem ofWord_and (w m : Word) : CmdFields.ofWord (w &&& m) =
    ⟨opField w &&& opField m, mField w &&& mField m,
      (CmdFields.ofWord w).z &&& (CmdFields.ofWord m).z, nField w &&& nField m, kField w &&& kField m⟩ := by
  simp only [CmdFields.ofWord, BitVec.extractLsb'_and, opField, mField, nField, kField]

/-- A row matches exactly the words with the fields of the command it builds: its mask keeps OP, Z and the
fields the command does not use, and clears the fields it does use. -/
theorem matches_iff_fields (w : Word) : ∀ r ∈ opcodeTable,
    (w &&& r.mask = r.fixedBits ↔ CmdFields.ofWord w = (r.build w).fields) := by
  have keep8 : ∀ x : BitVec 8, x &&& 255#8 = x := fun _ => BitVec.and_allOnes
  have keep5 : ∀ x : BitVec 5, x &&& 31#5 = x := fun _ => BitVec.and_allOnes
  have keep3 : ∀ x : BitVec 3, x &&& 7#3 = x := fun _ => BitVec.and_allOnes
  simp only [← CmdFields.ofWord_injective.eq_iff, ofWord_and]
  simp [opcodeTable, Instr.fields, CmdFields.ofWord, opField, mField, nField, kField, keep8, keep5, keep3]

theorem rowOfOp_op : ∀ r ∈ opcodeTable, rowOfOp r.op = some r := by
  simp only [opcodeTable, List.cons_append, List.nil_append, List.forall_mem_cons]
  exact ⟨rfl, rfl, rfl, rfl, rfl, rfl, rfl, rfl, rfl,
    rfl, rfl, rfl, rfl, rfl, rfl, rfl, List.forall_mem_nil _⟩

/-- Every mask keeps the whole of OP. -/
theorem opField_mask : ∀ r ∈ opcodeTable, opField r.mask = BitVec.allOnes 8 := by decide

/-- A row that matches a word is the row of the word's OP. -/
theorem rowOfOp_of_matches {w : Word} {r : OpRow} (hr : r ∈ opcodeTable) (h : w &&& r.mask = r.fixedBits) :
    rowOfOp (opField w) = some r := by
  have hop : r.op = opField w := by
    rw [OpRow.op, ← h, opField, BitVec.extractLsb'_and]
    change opField w &&& opField r.mask = opField w
    rw [opField_mask r hr, BitVec.and_allOnes]
  rw [← hop, rowOfOp_op r hr]

theorem decode_of_matches {w : Word} {r : OpRow} (hr : r ∈ opcodeTable) (h : w &&& r.mask = r.fixedBits) :
    decode w = .ok (r.build w) := by
  rw [decode, rowOfOp_of_matches hr h]
  exact if_pos h

theorem decode_of_no_match {w : Word} (h : ∀ r ∈ opcodeTable, w &&& r.mask ≠ r.fixedBits) :
    ∃ e, decode w = .error e := by
  rw [decode]
  cases hr : rowOfOp (opField w) with
  | none => exact ⟨_, rfl⟩
  | some r => exact ⟨_, if_neg (h r (List.mem_of_find?_eq_some hr))⟩

/-- Decoding is the one row that matches, or an error when no row does (R71). -/
theorem decode_cases (w : Word) :
    (∃ r ∈ opcodeTable, w &&& r.mask = r.fixedBits ∧ decode w = .ok (r.build w)) ∨
      ((∀ r ∈ opcodeTable, w &&& r.mask ≠ r.fixedBits) ∧ ∃ e, decode w = .error e) := by
  by_cases h : ∃ r ∈ opcodeTable, w &&& r.mask = r.fixedBits
  · obtain ⟨r, hr, hm⟩ := h
    exact .inl ⟨r, hr, hm, decode_of_matches hr hm⟩
  · have hn : ∀ r ∈ opcodeTable, w &&& r.mask ≠ r.fixedBits := fun r hr hm => h ⟨r, hr, hm⟩
    exact .inr ⟨hn, decode_of_no_match hn⟩

/-- Each command is built by its row, from every word with its fields. -/
theorem exists_row_build {w : Word} {i : Instr} (h : CmdFields.ofWord w = i.fields) :
    ∃ r ∈ opcodeTable, r.build w = i := by
  have hm : mField w = i.fields.m := congrArg CmdFields.m h
  have hn : nField w = i.fields.n := congrArg CmdFields.n h
  have hk : kField w = i.fields.k := congrArg CmdFields.k h
  suffices ∃ r, rowOfOp i.op = some r ∧ r.build w = i from
    let ⟨r, hr, hb⟩ := this
    ⟨r, List.mem_of_find?_eq_some hr, hb⟩
  cases i with
  | mscore m | mapply m => exact ⟨_, rfl, congrArg _ hm⟩
  | rsgen n => exact ⟨_, rfl, congrArg _ hn⟩
  | rsenc n k => exact ⟨_, rfl, congrArg₂ _ hn hk⟩
  | _ => exact ⟨_, rfl, rfl⟩

/-! ### Decoding by fields -/

/-- A word decodes to a command exactly when it has the command's fields. -/
theorem decode_eq_ok_iff {w : Word} {i : Instr} : decode w = .ok i ↔ CmdFields.ofWord w = i.fields := by
  constructor
  · intro h
    obtain ⟨r, hr, hm, hd⟩ | ⟨-, e, he⟩ := decode_cases w
    · obtain rfl : r.build w = i := Except.ok.inj (hd.symm.trans h)
      exact (matches_iff_fields w r hr).1 hm
    · rw [he] at h
      cases h
  · intro h
    obtain ⟨r, hr, rfl⟩ := exists_row_build h
    exact decode_of_matches hr ((matches_iff_fields w r hr).2 h)

theorem decode_encode (i : Instr) : decode (encode i) = .ok i :=
  decode_eq_ok_iff.2 (ofWord_eq_fields_iff.2 rfl)

theorem exists_decode_iff_wellFormed (w : Word) :
    (∃ i, decode w = .ok i) ↔ (CmdFields.ofWord w).wellFormed = true := by
  simp only [decode_eq_ok_iff, wellFormed_iff_exists_fields]

/-- A pending word that decodes to no command completes with BADOP (R71, R127). -/
theorem coreStep_of_decode_error {s : State} {w : Word} {e : DecodeError} (hp : s.pendcmd = some w)
    (hd : decode w = .error e) : coreStep s = .next (s.errorComplete (opField w) .badOp) := by
  simp only [coreStep, State.fetch, hp, hd]

/-- Settles O1: the word of a command has the command's fields. -/
theorem decodeEncodeRoundTrip : Obligations.DecodeEncodeRoundTrip := decode_encode

/-- Settles O2: decoding reads the fields, and the fields are the word. -/
theorem decodeAgreesWithFields : Obligations.DecodeAgreesWithFields := fun w =>
  ⟨exists_decode_iff_wellFormed w, fun _ h =>
    have hf := decode_eq_ok_iff.1 h
    ⟨hf.symm, ofWord_eq_fields_iff.1 hf⟩⟩

/-- Settles O3: a matching row is the row of the word's OP, so there is at most one. -/
theorem everyWordOneCommandOrBadOp : Obligations.EveryWordOneCommandOrBadOp := by
  refine fun w => ⟨?_, fun r hr r' hr' h h' => ?_⟩
  · obtain h | ⟨hn, e, he⟩ := decode_cases w
    · exact .inl h
    · exact .inr ⟨hn, ⟨e, he⟩, fun s hp => coreStep_of_decode_error hp he⟩
  · have hrr : some r = some r' := (rowOfOp_of_matches hr h).symm.trans (rowOfOp_of_matches hr' h')
    rw [Option.some.inj hrr]

/-- Settles O4: nine of the words are those of the commands; in the last three OP is in no row, Z is not 0,
or an unused M is not 0. -/
theorem specWordsDecode : Obligations.SpecWordsDecode :=
  ⟨decode_encode .nop, decode_encode .gfmul, decode_encode (.rsgen 7), decode_encode (.rsenc 13 13),
    decode_encode .eccode, decode_encode .mfunc, decode_encode (.mscore 3), decode_encode (.mapply 2),
    decode_encode .encode, rfl, rfl, rfl⟩

/-- Settles O6: an ill-formed word decodes to no command. -/
theorem illFormedWordCompletesWithBadOp : Obligations.IllFormedWordCompletesWithBadOp := by
  refine ⟨rfl, by decide, fun s w hp hw => ?_⟩
  cases hd : decode w with
  | ok i => exact absurd ((exists_decode_iff_wellFormed w).1 ⟨i, hd⟩) (by rw [hw]; decide)
  | error e => exact coreStep_of_decode_error hp hd

end Sys2Proof
end

section
/-! SUPPORT. Arithmetic in the field: multiplication as addition of logarithms and as repeated doubling, the
carry-less form of it, and the commands GFADD, GFMUL, GFEXP and GFLOG: O14 to O17 and O19 (spec
40_gf_arith.md R77 to R82). -/

namespace Sys2Proof.Machine

/-! ### Words with a bit that must be zero -/

/-- A word with the OP of a row and a bit set where the row's mask asks for zero raises BADOP (R71, R72). -/
theorem raisesBadOp_of_rowOfOp {op : BitVec 8} {r : OpRow} {unused : Word} (hr : rowOfOp op = some r)
    (hm : r.mask &&& unused = unused) (hu : r.fixedBits &&& unused = 0) : RaisesBadOp op unused := by
  intro w hop hw
  have hne : w &&& r.mask ≠ r.fixedBits := fun h => hw <| by
    rw [← hm, ← BitVec.and_assoc, h, hu]
  rw [decode, hop, hr]
  exact ⟨_, if_neg hne⟩

/-! ### Powers of α (R40, R76) -/

theorem gfDouble_ne_zero : ∀ e : Byte, e ≠ 0 → gfDouble e ≠ 0 := by decide +kernel

theorem gfExp_ne_zero {i : Nat} (hi : i < 255) : gfExp i ≠ 0 := by
  induction i with
  | zero => decide
  | succ i ih =>
    rw [gfExp_succ i (by omega)]
    exact gfDouble_ne_zero _ (ih (by omega))

/-- Every non-zero element is a power of α. -/
theorem exists_gfExp_eq {a : Byte} (ha : a ≠ 0) : ∃ i < 255, gfExp i = a :=
  ⟨gfLog a, gfExp_gfLog a ha⟩

theorem gfExp_inj {i j : Nat} (hi : i < 255) (hj : j < 255) : gfExp i = gfExp j ↔ i = j :=
  ⟨fun h => by rw [← gfLog_gfExp i hi, h, gfLog_gfExp j hj], congrArg gfExp⟩

/-- Doubling adds one to the exponent, modulo 255. -/
theorem gfDouble_gfExp {i : Nat} (hi : i < 255) : gfDouble (gfExp i) = gfExp ((i + 1) % 255) := by
  obtain h | rfl : i < 254 ∨ i = 254 := by omega
  · rw [← gfExp_succ i h, Nat.mod_eq_of_lt (by omega)]
  · rfl

theorem iterate_gfDouble_gfExp {i : Nat} (hi : i < 255) (n : Nat) :
    gfDouble^[n] (gfExp i) = gfExp ((i + n) % 255) := by
  induction n with
  | zero => rw [Function.iterate_zero_apply, Nat.add_zero, Nat.mod_eq_of_lt hi]
  | succ n ih =>
    rw [Function.iterate_succ_apply', ih, gfDouble_gfExp (Nat.mod_lt _ (by omega)), Nat.mod_add_mod,
      Nat.add_assoc]

/-! ### Multiplication by logarithms (R77) -/

theorem gfmul_zero (a : Byte) : gfmul a 0 = 0 := if_pos (.inr rfl)

theorem zero_gfmul (b : Byte) : gfmul 0 b = 0 := if_pos (.inl rfl)

theorem gfmul_comm (a b : Byte) : gfmul a b = gfmul b a := by
  simp only [gfmul, or_comm, Nat.add_comm]

/-- The exponents of a product add, modulo 255. -/
theorem gfmul_gfExp {i j : Nat} (hi : i < 255) (hj : j < 255) :
    gfmul (gfExp i) (gfExp j) = gfExp ((i + j) % 255) := by
  rw [gfmul, if_neg (not_or.2 ⟨gfExp_ne_zero hi, gfExp_ne_zero hj⟩), gfLog_gfExp i hi, gfLog_gfExp j hj]

/-- Multiplying by α^i is doubling i times. -/
theorem gfExp_gfmul {i : Nat} (hi : i < 255) (b : Byte) : gfmul (gfExp i) b = gfDouble^[i] b := by
  by_cases hb : b = 0
  · rw [hb, gfmul_zero, Function.iterate_fixed rfl]
  · obtain ⟨j, hj, rfl⟩ := exists_gfExp_eq hb
    rw [gfmul_gfExp hi hj, iterate_gfDouble_gfExp hj, Nat.add_comm]

theorem gfmul_one (a : Byte) : gfmul a 1 = a := by
  rw [gfmul_comm]
  exact gfExp_gfmul (i := 0) (by omega) a

theorem gfmul_assoc (a b c : Byte) : gfmul (gfmul a b) c = gfmul a (gfmul b c) := by
  by_cases ha : a = 0
  · simp only [ha, zero_gfmul]
  by_cases hb : b = 0
  · simp only [hb, gfmul_zero, zero_gfmul]
  by_cases hc : c = 0
  · simp only [hc, gfmul_zero]
  obtain ⟨i, hi, rfl⟩ := exists_gfExp_eq ha
  obtain ⟨j, hj, rfl⟩ := exists_gfExp_eq hb
  obtain ⟨k, hk, rfl⟩ := exists_gfExp_eq hc
  have hlt : ∀ n, n % 255 < 255 := fun n => Nat.mod_lt n (by omega)
  rw [gfmul_gfExp hi hj, gfmul_gfExp hj hk, gfmul_gfExp (hlt _) hk, gfmul_gfExp hi (hlt _),
    Nat.mod_add_mod, Nat.add_mod_mod, Nat.add_assoc]

/-- The inverse of α^i is α^(255 - i), and there is no other. -/
theorem gfExp_gfmul_eq_one_iff {i : Nat} (hi : i < 255) (b : Byte) :
    gfmul (gfExp i) b = 1 ↔ b = gfExp ((255 - i) % 255) := by
  have hinv : (255 - i) % 255 < 255 := Nat.mod_lt _ (by omega)
  by_cases hb : b = 0
  · have hzero : ¬ (0 : Byte) = 1 := by decide
    rw [hb, gfmul_zero, iff_false_left hzero]
    exact (gfExp_ne_zero hinv).symm
  · obtain ⟨j, hj, rfl⟩ := exists_gfExp_eq hb
    rw [gfmul_gfExp hi hj, gfExp_inj hj hinv, show (1 : Byte) = gfExp 0 from rfl,
      gfExp_inj (Nat.mod_lt _ (by omega)) (by omega)]
    omega

/-! ### Multiplication distributes over addition (R78) -/

/-- Taking a constant away where a bit comes out is additive in the value and the bit together. -/
theorem ite_xor_const {n : Nat} (p q : Bool) (x y c : BitVec n) :
    (if (p ^^ q) = true then (x ^^^ y) ^^^ c else x ^^^ y) =
      (if p = true then x ^^^ c else x) ^^^ (if q = true then y ^^^ c else y) := by
  cases p with
  | false =>
    cases q with
    | false => rfl
    | true => exact BitVec.xor_assoc x y c
  | true =>
    cases q with
    | false =>
      change x ^^^ y ^^^ c = x ^^^ c ^^^ y
      ac_rfl
    | true =>
      calc x ^^^ y = x ^^^ y ^^^ (c ^^^ c) := by rw [BitVec.xor_self, BitVec.xor_zero]
        _ = x ^^^ c ^^^ (y ^^^ c) := by ac_rfl

theorem gfDouble_xor (x y : Byte) : gfDouble (x ^^^ y) = gfDouble x ^^^ gfDouble y := by
  simp only [gfDouble, BitVec.getLsbD_xor, BitVec.shiftLeft_xor_distrib, ite_xor_const]

theorem iterate_gfDouble_xor (n : Nat) (x y : Byte) :
    gfDouble^[n] (x ^^^ y) = gfDouble^[n] x ^^^ gfDouble^[n] y :=
  (Function.Semiconj₂.iterate (f := gfDouble) (op := (· ^^^ ·)) gfDouble_xor n) x y

theorem gfmul_xor (a b c : Byte) : gfmul a (b ^^^ c) = gfmul a b ^^^ gfmul a c := by
  by_cases ha : a = 0
  · rw [ha, zero_gfmul, zero_gfmul, zero_gfmul]
    rfl
  · obtain ⟨i, hi, rfl⟩ := exists_gfExp_eq ha
    simp only [gfExp_gfmul hi, iterate_gfDouble_xor]

theorem xor_gfmul (a b c : Byte) : gfmul (a ^^^ b) c = gfmul a c ^^^ gfmul b c := by
  simp only [gfmul_comm _ c, gfmul_xor]

/-- Settles O19: a non-zero element is a power of α, whose exponents add, and multiplying by a power of α is
repeated doubling, which is additive. -/
theorem fieldLaws : Obligations.FieldLaws := by
  refine ⟨fun a b => ⟨BitVec.xor_comm a b, gfmul_comm a b⟩,
    fun a b c => ⟨BitVec.xor_assoc a b c, gfmul_assoc a b c⟩, gfmul_xor,
    fun a => ⟨BitVec.xor_zero, gfmul_one a, gfmul_zero a⟩, fun a ha b => ?_,
    gfmul_gfExp (by omega) (by omega), rfl⟩
  obtain ⟨i, hi, rfl⟩ := exists_gfExp_eq ha
  rw [gfLog_gfExp i hi]
  exact gfExp_gfmul_eq_one_iff hi b

/-! ### The carry-less product modulo 0x11D (R77) -/

/-- A loop whose step is additive is additive. -/
theorem foldl_xor {α : Type} {n : Nat} {f g h : BitVec n → α → BitVec n}
    (hstep : ∀ r s i, f (r ^^^ s) i = g r i ^^^ h s i) (l : List α) (r s : BitVec n) :
    l.foldl f (r ^^^ s) = l.foldl g r ^^^ l.foldl h s := by
  induction l generalizing r s with
  | nil => rfl
  | cons i l ih => rw [List.foldl_cons, List.foldl_cons, List.foldl_cons, hstep, ih]

theorem clPartial_xor_left (a a' b : Byte) (i : Nat) :
    clPartial (a ^^^ a') b i = clPartial a b i ^^^ clPartial a' b i := by
  rw [clPartial, clPartial, clPartial]
  split
  · rw [BitVec.setWidth_xor, BitVec.shiftLeft_xor_distrib]
  · rfl

theorem clPartial_xor_right (a b b' : Byte) (i : Nat) :
    clPartial a (b ^^^ b') i = clPartial a b i ^^^ clPartial a b' i := by
  rw [clPartial, clPartial, clPartial, BitVec.getLsbD_xor]
  cases b.getLsbD i <;> cases b'.getLsbD i <;> simp

theorem clProduct_xor_left (a a' b : Byte) : clProduct (a ^^^ a') b = clProduct a b ^^^ clProduct a' b :=
  foldl_xor (fun r s i => by rw [clPartial_xor_left]; ac_rfl) _ 0 0

theorem clProduct_xor_right (a b b' : Byte) : clProduct a (b ^^^ b') = clProduct a b ^^^ clProduct a b' :=
  foldl_xor (fun r s i => by rw [clPartial_xor_right]; ac_rfl) _ 0 0

theorem clReduceAt_xor (r s : BitVec 15) (i : Nat) :
    clReduceAt (r ^^^ s) i = clReduceAt r i ^^^ clReduceAt s i := by
  simp only [clReduceAt, BitVec.getLsbD_xor, ite_xor_const]

theorem gfmulClmul_xor_left (a a' b : Byte) :
    gfmulClmul (a ^^^ a') b = gfmulClmul a b ^^^ gfmulClmul a' b := by
  simp only [gfmulClmul, clProduct_xor_left, foldl_xor clReduceAt_xor, BitVec.setWidth_xor]

theorem gfmulClmul_xor_right (a b b' : Byte) :
    gfmulClmul a (b ^^^ b') = gfmulClmul a b ^^^ gfmulClmul a b' := by
  simp only [gfmulClmul, clProduct_xor_right, foldl_xor clReduceAt_xor, BitVec.setWidth_xor]

/-- A byte is the sum of its bits. -/
theorem foldl_xor_twoPow_eq : ∀ b : Byte,
    (List.range 8).foldl (fun r i => if b.getLsbD i then r ^^^ BitVec.twoPow 8 i else r) 0 = b := by
  decide +kernel

/-- What holds of the eight powers of two and is kept by addition holds of every byte. -/
theorem byte_xor_induction {P : Byte → Prop} (twoPow : ∀ i < 8, P (BitVec.twoPow 8 i))
    (xor : ∀ x y, P x → P y → P (x ^^^ y)) (b : Byte) : P b := by
  have zero : P 0 := xor _ _ (twoPow 0 (by omega)) (twoPow 0 (by omega))
  rw [← foldl_xor_twoPow_eq b]
  refine List.foldlRecOn _ _ zero fun r hr i hi => ?_
  split
  · exact xor r _ hr (twoPow i (List.mem_range.1 hi))
  · exact hr

theorem gfmul_twoPow_eq_gfmulClmul : ∀ i < 8, ∀ j < 8,
    gfmul (BitVec.twoPow 8 i) (BitVec.twoPow 8 j) = gfmulClmul (BitVec.twoPow 8 i) (BitVec.twoPow 8 j) := by
  decide +kernel

/-- The two multiplications agree: both are additive in each factor, and they agree on powers of two. -/
theorem gfmul_eq_gfmulClmul (a b : Byte) : gfmul a b = gfmulClmul a b := by
  induction b using byte_xor_induction with
  | xor x y hx hy => rw [gfmul_xor, gfmulClmul_xor_right, hx, hy]
  | twoPow j hj =>
    induction a using byte_xor_induction with
    | xor x y hx hy => rw [xor_gfmul, gfmulClmul_xor_left, hx, hy]
    | twoPow i hi => exact gfmul_twoPow_eq_gfmulClmul i hi j hj

/-! ### The commands (R79 to R82) -/

/-- Settles O14: GFADD always runs. -/
theorem gfaddResult : Obligations.GfaddResult :=
  ⟨rfl, raisesBadOp_of_rowOfOp rfl (by decide) (by decide), fun _ => exec_of_runs (i := .gfadd) trivial⟩

/-- Settles O15: GFMUL always runs, and its product is the carry-less one. -/
theorem gfmulResult : Obligations.GfmulResult :=
  ⟨rfl, raisesBadOp_of_rowOfOp rfl (by decide) (by decide), fun s =>
    ⟨exec_of_runs (i := .gfmul) trivial, gfmul_eq_gfmulClmul s.gfA s.gfB⟩⟩

/-- Settles O16: GFEXP always runs, and no power of α is 0. -/
theorem gfexpResult : Obligations.GfexpResult :=
  ⟨rfl, raisesBadOp_of_rowOfOp rfl (by decide) (by decide), fun _ =>
    ⟨exec_of_runs (i := .gfexp) trivial, gfExp_ne_zero (Nat.mod_lt _ (by omega))⟩⟩

/-- Settles O17: GFLOG runs exactly for A ≠ 0. -/
theorem gflogResult : Obligations.GflogResult :=
  ⟨rfl, raisesBadOp_of_rowOfOp rfl (by decide) (by decide), fun s =>
    ⟨fun h => if_pos h, fun h =>
      ⟨exec_of_runs (i := .gflog) h, Nat.le_of_lt_succ (gfExp_gfLog s.gfA h).1⟩⟩⟩

end Sys2Proof.Machine
end

section
/-! SUPPORT. Polynomials over the field: the value of a sum, of a multiple and of a product with a root
factor, the roots of the generator polynomial, and the step of `rsrem` as a step of polynomial division: O22
to O24 (spec 41_reed_solomon.md R84 to R86). -/

namespace Sys2Proof.Machine

/-! ### Sums and multiples of coefficient lists (R11) -/

@[simp] theorem polyAdd_cons (a b : Byte) (p q : List Byte) :
    polyAdd (a :: p) (b :: q) = (a ^^^ b) :: polyAdd p q := rfl

@[simp] theorem polyScale_cons (a : Byte) (p : List Byte) (f : Byte) :
    polyScale (a :: p) f = gfmul a f :: polyScale p f := rfl

theorem xor_zero_byte (a : Byte) : a ^^^ 0 = a := BitVec.xor_zero

theorem polyAdd_append {p p' : List Byte} (q q' : List Byte) (h : p.length = p'.length) :
    polyAdd (p ++ q) (p' ++ q') = polyAdd p p' ++ polyAdd q q' := List.zipWith_append h

theorem polyAdd_concat {p q : List Byte} (a b : Byte) (h : p.length = q.length) :
    polyAdd (p ++ [a]) (q ++ [b]) = polyAdd p q ++ [a ^^^ b] := polyAdd_append [a] [b] h

/-- Induction over two lists of one length from the left, as the loops over coefficients and data run. -/
theorem concat_induction₂ {P : (p q : List Byte) → p.length = q.length → Prop} (nil : P [] [] rfl)
    (concat : ∀ (p q : List Byte) (a b : Byte) (h : p.length = q.length), P p q h →
      P (p ++ [a]) (q ++ [b]) (by simp [h]))
    (p q : List Byte) (h : p.length = q.length) : P p q h := by
  induction p using List.reverseRecOn generalizing q with
  | nil =>
    obtain rfl : q = [] := List.eq_nil_of_length_eq_zero h.symm
    exact nil
  | append_singleton p a ih =>
    obtain rfl | ⟨q, b, rfl⟩ := q.eq_nil_or_concat'
    · simp at h
    · have hl : p.length = q.length := by simpa using h
      exact concat p q a b hl (ih q hl)

theorem polyAdd_zeros (p : List Byte) : polyAdd p (List.replicate p.length 0) = p := by
  induction p with
  | nil => rfl
  | cons a p ih => rw [List.length_cons, List.replicate_succ, polyAdd_cons, ih, xor_zero_byte]

theorem polyAdd_replicate_zero (n : Nat) :
    polyAdd (List.replicate n 0) (List.replicate n 0) = List.replicate n 0 := by
  have h := polyAdd_zeros (List.replicate n 0)
  rwa [List.length_replicate] at h

/-- Of four summands the two in the middle can change places. -/
theorem polyAdd_polyAdd_polyAdd_comm (p q p' q' : List Byte) :
    polyAdd (polyAdd p q) (polyAdd p' q') = polyAdd (polyAdd p p') (polyAdd q q') := by
  apply List.ext_getElem
  · simp only [length_polyAdd]
    omega
  · intro i _ _
    simp only [polyAdd, List.getElem_zipWith]
    ac_rfl

theorem polyScale_xor (p : List Byte) (f f' : Byte) :
    polyScale p (f ^^^ f') = polyAdd (polyScale p f) (polyScale p f') := by
  induction p with
  | nil => rfl
  | cons a p ih => rw [polyScale_cons, polyScale_cons, polyScale_cons, polyAdd_cons, ih, gfmul_xor]

theorem polyScale_zero (p : List Byte) : polyScale p 0 = List.replicate p.length 0 := by
  simp only [polyScale, gfmul_zero, List.map_const']

/-! ### Values (R11) -/

section Values

variable (x : Byte)

theorem polyEval_append_singleton (p : List Byte) (c : Byte) :
    polyEval (p ++ [c]) x = gfmul (polyEval p x) x ^^^ c := List.foldl_concat ..

theorem polyEval_zero_cons (p : List Byte) : polyEval (0 :: p) x = polyEval p x := by
  rw [polyEval, List.foldl_cons, zero_gfmul]
  rfl

theorem polyEval_zeros_append (k : Nat) (p : List Byte) :
    polyEval (List.replicate k 0 ++ p) x = polyEval p x := by
  induction k with
  | zero => rfl
  | succ k ih => rw [List.replicate_succ, List.cons_append, polyEval_zero_cons, ih]

theorem polyEval_polyAdd {p q : List Byte} (h : p.length = q.length) :
    polyEval (polyAdd p q) x = polyEval p x ^^^ polyEval q x := by
  induction p, q, h using concat_induction₂ with
  | nil => exact (BitVec.xor_self (x := 0#8)).symm
  | concat p q a b h ih =>
    rw [polyAdd_concat a b h, polyEval_append_singleton, polyEval_append_singleton,
      polyEval_append_singleton, ih, xor_gfmul]
    ac_rfl

theorem polyEval_polyScale (p : List Byte) (f : Byte) :
    polyEval (polyScale p f) x = gfmul (polyEval p x) f := by
  induction p using List.reverseRecOn with
  | nil => exact (zero_gfmul f).symm
  | append_singleton p a ih =>
    rw [polyScale, List.map_append, List.map_singleton, polyEval_append_singleton, ← polyScale, ih,
      polyEval_append_singleton, xor_gfmul, gfmul_assoc, gfmul_assoc, gfmul_comm f x]

/-! ### The generator polynomial (R84) -/

/-- The loop body of `genpoly` multiplies by x ⊕ α^i. -/
theorem polyEval_mulRoot (g : List Byte) (i : Nat) :
    polyEval (mulRoot g i) x = gfmul (polyEval g x) (x ^^^ gfExp i) := by
  rw [mulRoot, polyEval_polyAdd _ (by simp), polyEval_append_singleton, polyEval_zero_cons,
    polyEval_polyScale, xor_zero_byte, gfmul_xor]

end Values

theorem genpoly_succ (n : Nat) : genpoly (n + 1) = mulRoot (genpoly n) n := by
  rw [genpoly, List.range_succ, List.foldl_concat, ← genpoly]

/-- The generator polynomial is monic. -/
theorem genpoly_eq_cons (n : Nat) : genpoly n = 1 :: (genpoly n).tail := by
  induction n with
  | zero => rfl
  | succ n ih =>
    rw [genpoly_succ, ih]
    rfl

theorem polyEval_genpoly {i n : Nat} (h : i < n) : polyEval (genpoly n) (gfExp i) = 0 := by
  induction n with
  | zero => omega
  | succ n ih =>
    rw [genpoly_succ, polyEval_mulRoot]
    obtain h | rfl : i < n ∨ i = n := by omega
    · rw [ih h, zero_gfmul]
    · rw [BitVec.xor_self]
      exact gfmul_zero _

/-- Settles O22: each factor x ⊕ α^i of the product vanishes at its root and has first coefficient 1. -/
theorem generatorPolynomialRoots : Obligations.GeneratorPolynomialRoots := fun n _ _ =>
  ⟨length_genpoly n, by rw [genpoly_eq_cons]; rfl, fun _ => polyEval_genpoly⟩

/-! ### The remainder (R85, R86) -/

theorem rsrem_concat (d : List Byte) (c : Byte) (n : Nat) :
    rsrem (d ++ [c]) n = rsStep (genpoly n).tail (rsrem d n) c := List.foldl_concat ..

/-- A step of `rsrem` is a step of polynomial division: with one more data codeword c, data and remainder are
what they were, shifted by one place, plus a multiple of the generator polynomial. -/
theorem append_rsStep (d g r : List Byte) (c : Byte) (hr : r ≠ []) (h : r.length = g.length) :
    d ++ c :: rsStep g r c =
      polyAdd (d ++ r ++ [0]) (List.replicate d.length 0 ++ polyScale (1 :: g) (c ^^^ r.headD 0)) := by
  cases r with
  | nil => exact absurd rfl hr
  | cons a r =>
    have hc : a ^^^ gfmul 1 (c ^^^ a) = c := by
      rw [gfmul_comm, gfmul_one, BitVec.xor_comm c, ← BitVec.xor_assoc, BitVec.xor_self, BitVec.zero_xor]
    rw [List.append_assoc, polyAdd_append _ _ List.length_replicate.symm, polyAdd_zeros, List.cons_append,
      polyScale_cons, polyAdd_cons, List.headD_cons, hc]
    rfl

/-- Data followed by its EC codewords vanishes at every root of the generator polynomial. -/
theorem polyEval_append_rsrem (d : List Byte) {n : Nat} {x : Byte} (hn : 1 ≤ n)
    (hx : polyEval (genpoly n) x = 0) : polyEval (d ++ rsrem d n) x = 0 := by
  induction d using List.reverseRecOn with
  | nil =>
    change polyEval (List.replicate n 0) x = 0
    have h := polyEval_zeros_append x n []
    rwa [List.append_nil] at h
  | append_singleton d c ih =>
    have hr : rsrem d n ≠ [] := List.ne_nil_of_length_pos (by rw [length_rsrem]; omega)
    rw [rsrem_concat, List.append_assoc, List.singleton_append, append_rsStep d _ _ c hr (by simp),
      ← genpoly_eq_cons, polyEval_polyAdd _ (by simp), polyEval_append_singleton, ih, polyEval_zeros_append,
      polyEval_polyScale, hx, zero_gfmul, zero_gfmul]
    rfl

/-- Settles O23: data and remainder stay a multiple of the generator polynomial, whose roots are known. -/
theorem codewordPolynomialHasTheRoots : Obligations.CodewordPolynomialHasTheRoots := fun d n hn _ =>
  ⟨length_rsrem d n, fun _ hi => polyEval_append_rsrem d hn (polyEval_genpoly hi)⟩

/-! ### The remainder is linear (R86) -/

theorem headD_polyAdd {p q : List Byte} (h : p.length = q.length) :
    (polyAdd p q).headD 0 = p.headD 0 ^^^ q.headD 0 := by
  cases p with
  | nil =>
    obtain rfl : q = [] := List.eq_nil_of_length_eq_zero h.symm
    exact (BitVec.xor_self (x := 0#8)).symm
  | cons a p =>
    cases q with
    | nil => cases h
    | cons b q => rfl

theorem rsStep_polyAdd (g : List Byte) {r s : List Byte} (c e : Byte) (h : r.length = s.length) :
    rsStep g (polyAdd r s) (c ^^^ e) = polyAdd (rsStep g r c) (rsStep g s e) := by
  have hd : (c ^^^ e) ^^^ (polyAdd r s).headD 0 = (c ^^^ r.headD 0) ^^^ (e ^^^ s.headD 0) := by
    rw [headD_polyAdd h]
    ac_rfl
  have ht : (polyAdd r s).tail ++ [0] = polyAdd (r.tail ++ [0]) (s.tail ++ [0]) := by
    rw [polyAdd_concat _ _ (by simp [h]), polyAdd, List.tail_zipWith]
    rfl
  rw [rsStep, hd, ht, polyScale_xor, polyAdd_polyAdd_polyAdd_comm, ← rsStep, ← rsStep]

theorem rsrem_polyAdd {d e : List Byte} (n : Nat) (h : d.length = e.length) :
    rsrem (polyAdd d e) n = polyAdd (rsrem d n) (rsrem e n) := by
  induction d, e, h using concat_induction₂ with
  | nil => exact (polyAdd_replicate_zero n).symm
  | concat d e c c' h ih =>
    rw [polyAdd_concat c c' h, rsrem_concat, rsrem_concat, rsrem_concat, ih, rsStep_polyAdd _ _ _ (by simp)]

/-- A zero data codeword leaves a zero remainder. -/
theorem rsStep_zeros (g : List Byte) : rsStep g (List.replicate g.length 0) 0 = List.replicate g.length 0 := by
  have hd : (0 : Byte) ^^^ (List.replicate g.length (0 : Byte)).headD 0 = 0 := by
    cases g <;> exact BitVec.xor_self
  rw [rsStep, hd, polyScale_zero]
  cases g with
  | nil => rfl
  | cons a g =>
    rw [List.length_cons, List.tail_replicate, Nat.add_sub_cancel, ← List.replicate_succ',
      polyAdd_replicate_zero]

theorem rsrem_zero_cons (d : List Byte) (n : Nat) : rsrem (0 :: d) n = rsrem d n := by
  have h := rsStep_zeros (genpoly n).tail
  rw [List.length_tail, length_genpoly, Nat.add_sub_cancel] at h
  rw [rsrem, List.foldl_cons, h, ← rsrem]

theorem rsrem_zeros (k n : Nat) : rsrem (List.replicate k 0) n = List.replicate n 0 := by
  induction k with
  | zero => rfl
  | succ k ih => rw [List.replicate_succ, rsrem_zero_cons, ih]

/-- Settles O24: each step of `rsrem` is additive, and keeps a zero remainder for a zero data codeword. -/
theorem ecCodewordsLinear : Obligations.EcCodewordsLinear := fun d _ n _ _ =>
  ⟨rsrem_polyAdd n, fun k => rsrem_zeros k n, rsrem_zero_cons d n⟩

end Sys2Proof.Machine
end

section
/-! SUPPORT. Split and interleave: where each codeword of a block stands in the stream and in the columns:
O25 (spec 41_reed_solomon.md R87, R88). -/

namespace Sys2Proof.Machine

/-! ### The blocks of a stream (R87) -/

theorem flatten_splitRuns (d : List Byte) (ls : List Nat) (h : ls.sum = d.length) :
    (splitRuns d ls).flatten = d := by
  induction ls generalizing d with
  | nil => exact (List.eq_nil_of_length_eq_zero h.symm).symm
  | cons n ls ih =>
    rw [List.sum_cons] at h
    rw [splitRuns, List.flatten_cons, ih _ (by rw [List.length_drop]; omega), List.take_append_drop]

/-- Run b begins after the runs before it. -/
theorem getElem?_splitRuns (d : List Byte) (ls : List Nat) (b : Nat) :
    (splitRuns d ls)[b]? = ls[b]?.map fun n => (d.drop (ls.take b).sum).take n := by
  induction ls generalizing d b with
  | nil => rfl
  | cons n ls ih =>
    cases b with
    | zero => rfl
    | succ b =>
      rw [splitRuns, List.getElem?_cons_succ, List.getElem?_cons_succ, ih, List.take_succ_cons,
        List.sum_cons, List.drop_drop]

theorem blockLengths_eq_map (r : BlockRow) :
    r.blockLengths = (List.range (r.nb1 + r.nb2)).map (blockLen r) := by
  apply List.ext_getElem
  · rw [length_blockLengths, List.length_map, List.length_range]
  · intro b _ _
    simp only [BlockRow.blockLengths, List.getElem_append, List.getElem_replicate, List.length_replicate,
      List.getElem_map, List.getElem_range, blockLen]
    split <;> rfl

/-- Block b of a stream: the len(b) codewords from s(b) on (R87). -/
theorem getElem?_blocks (r : BlockRow) (d : List Byte) {b : Nat} (hb : b < r.nb1 + r.nb2) :
    (splitRuns d r.blockLengths)[b]? = some ((d.drop (blockStart r b)).take (blockLen r b)) := by
  rw [getElem?_splitRuns, blockLengths_eq_map, ← List.map_take, List.take_range, Nat.min_eq_left hb.le,
    List.getElem?_map, List.getElem?_range hb]
  rfl

/-! ### Columns (R88) -/

section Columns

variable {bs : List (List Byte)} {j : Nat}

/-- A column that every block reaches has one codeword of each, in block order. -/
theorem blockColumn_eq_map (h : ∀ b ∈ bs, j < b.length) : blockColumn bs j = bs.map (·.getD j 0) :=
  List.filterMap_eq_map_iff_forall_eq_some.2 fun b hb => by
    rw [List.getD_eq_getElem _ _ (h b hb), List.getElem?_eq_getElem (h b hb)]

theorem lt_length_blockColumn (h : ∀ b ∈ bs, j < b.length) {i : Nat} {b : List Byte} (hb : bs[i]? = some b) :
    i < (blockColumn bs j).length := by
  rw [blockColumn_eq_map h, List.length_map]
  exact (List.getElem?_eq_some_iff.1 hb).1

theorem getElem?_blockColumn (h : ∀ b ∈ bs, j < b.length) {i : Nat} {b : List Byte}
    (hb : bs[i]? = some b) : (blockColumn bs j)[i]? = b[j]? := by
  have hj := h b (List.mem_of_getElem? hb)
  rw [blockColumn_eq_map h, List.getElem?_map, hb, Option.map_some, List.getD_eq_getElem _ _ hj,
    List.getElem?_eq_getElem hj]

theorem blockColumn_eq_nil (h : ∀ b ∈ bs, b.length ≤ j) : blockColumn bs j = [] :=
  List.filterMap_eq_nil_iff.2 fun b hb => List.getElem?_eq_none (h b hb)

theorem blockColumn_cons (b : List Byte) (bs : List (List Byte)) (j : Nat) :
    blockColumn (b :: bs) j = b[j]?.toList ++ blockColumn bs j := by
  simp only [blockColumn, List.filterMap_cons]
  cases b[j]? <;> rfl

theorem blockColumn_append (bs bs' : List (List Byte)) (j : Nat) :
    blockColumn (bs ++ bs') j = blockColumn bs j ++ blockColumn bs' j := List.filterMap_append

theorem interleave_succ (bs : List (List Byte)) (j : Nat) :
    interleave bs (j + 1) = interleave bs j ++ blockColumn bs j := by
  rw [interleave, List.range_succ, List.flatMap_append, List.flatMap_singleton, ← interleave]

theorem exists_interleave_append (bs : List (List Byte)) {m n : Nat} (h : m ≤ n) :
    ∃ rest, interleave bs n = interleave bs m ++ rest := by
  induction n, h using Nat.le_induction with
  | base => exact ⟨[], (List.append_nil _).symm⟩
  | succ n _ ih =>
    obtain ⟨rest, hr⟩ := ih
    exact ⟨rest ++ blockColumn bs n, by rw [interleave_succ, hr, List.append_assoc]⟩

/-- The first j columns are full when every block has j codewords. -/
theorem length_interleave_full (h : ∀ b ∈ bs, j ≤ b.length) :
    (interleave bs j).length = j * bs.length := by
  induction j with
  | zero => rw [Nat.zero_mul]; rfl
  | succ j ih =>
    rw [interleave_succ, List.length_append, ih fun b hb => (Nat.le_succ j).trans (h b hb),
      blockColumn_eq_map h, List.length_map, Nat.succ_mul]

/-- Column j stands after the j full columns before it. -/
theorem getElem?_interleave {n i : Nat} (hj : j < n) (hf : ∀ b ∈ bs, j ≤ b.length)
    (hi : i < (blockColumn bs j).length) :
    (interleave bs n)[j * bs.length + i]? = (blockColumn bs j)[i]? := by
  obtain ⟨rest, hr⟩ := exists_interleave_append bs hj
  rw [hr, interleave_succ, List.append_assoc, ← length_interleave_full hf,
    List.getElem?_append_right (Nat.le_add_right _ _), Nat.add_sub_cancel_left, List.getElem?_append_left hi]

/-- In a full column the codeword of block i is the i-th. -/
theorem getElem?_interleave_full {n i : Nat} {b : List Byte} (hj : j < n) (hf : ∀ b ∈ bs, j < b.length)
    (hb : bs[i]? = some b) : (interleave bs n)[j * bs.length + i]? = b[j]? := by
  rw [getElem?_interleave hj (fun b hb => (hf b hb).le) (lt_length_blockColumn hf hb),
    getElem?_blockColumn hf hb]

end Columns

theorem flatMap_getElem?_toList {b : List Byte} {n : Nat} (h : b.length ≤ n) :
    ((List.range n).flatMap fun j => b[j]?.toList) = b := by
  induction b generalizing n with
  | nil => simp
  | cons x b ih =>
    obtain ⟨n, rfl⟩ : ∃ m, n = m + 1 := ⟨n - 1, by simp at h; omega⟩
    have := ih (n := n) (by simpa using h)
    simp [List.range_succ_eq_map, List.flatMap_map, this]

/-- Interleaving keeps the codewords, each as often as it stands in the blocks. -/
theorem interleave_perm (bs : List (List Byte)) (n : Nat) (h : ∀ b ∈ bs, b.length ≤ n) :
    (interleave bs n).Perm bs.flatten := by
  induction bs with
  | nil => simp [interleave, blockColumn]
  | cons b bs ih =>
    rw [List.forall_mem_cons] at h
    have hc : blockColumn (b :: bs) = fun j => b[j]?.toList ++ blockColumn bs j :=
      funext (blockColumn_cons b bs)
    rw [interleave, hc]
    refine (List.flatMap_append_perm _ _ _).symm.trans ?_
    rw [flatMap_getElem?_toList h.1]
    exact (ih h.2).append_left b

/-! ### The final sequence (R87, R88) -/

section FinalSequence

variable {r : BlockRow} {d : List Byte}

theorem BlockRow.Sound.sum_blockLengths (hr : r.Sound) : r.blockLengths.sum = r.ndata := by
  rw [Machine.sum_blockLengths, hr.ndata_eq]

theorem BlockRow.Sound.map_length_blocks (hr : r.Sound) (hd : d.length = r.ndata) :
    (splitRuns d r.blockLengths).map List.length = r.blockLengths :=
  map_length_splitRuns d _ (by rw [hr.sum_blockLengths, hd])

theorem length_blocks (r : BlockRow) (d : List Byte) :
    (splitRuns d r.blockLengths).length = r.nb1 + r.nb2 := by
  rw [length_splitRuns, length_blockLengths]

theorem length_mem_blocks (hr : r.Sound) (hd : d.length = r.ndata) {b : List Byte}
    (hb : b ∈ splitRuns d r.blockLengths) : r.nd1 ≤ b.length ∧ b.length ≤ r.columns := by
  have hm : b.length ∈ r.blockLengths := hr.map_length_blocks hd ▸ List.mem_map_of_mem hb
  refine ⟨?_, le_columns hm⟩
  rw [BlockRow.blockLengths, List.mem_append, List.mem_replicate, List.mem_replicate] at hm
  omega

/-- The first NB1 blocks have no codeword in the last, longer column, and the NB2 blocks after them have. -/
theorem length_mem_groups (hr : r.Sound) (hd : d.length = r.ndata) :
    (∀ b ∈ (splitRuns d r.blockLengths).take r.nb1, b.length = r.nd1) ∧
      ∀ b ∈ (splitRuns d r.blockLengths).drop r.nb1, b.length = r.nd1 + 1 := by
  have hm := hr.map_length_blocks hd
  have h1 : ((splitRuns d r.blockLengths).take r.nb1).map List.length = List.replicate r.nb1 r.nd1 := by
    rw [List.map_take, hm, BlockRow.blockLengths, List.take_left' List.length_replicate]
  have h2 : ((splitRuns d r.blockLengths).drop r.nb1).map List.length = List.replicate r.nb2 (r.nd1 + 1) := by
    rw [List.map_drop, hm, BlockRow.blockLengths, List.drop_left' List.length_replicate]
  exact ⟨fun b hb => (List.eq_replicate_iff.1 h1).2 _ (List.mem_map_of_mem hb),
    fun b hb => (List.eq_replicate_iff.1 h2).2 _ (List.mem_map_of_mem hb)⟩

theorem length_interleave_blocks (hr : r.Sound) (hd : d.length = r.ndata) :
    (interleave (splitRuns d r.blockLengths) r.columns).length = r.ndata := by
  rw [length_interleave _ _ fun b hb => (length_mem_blocks hr hd hb).2, hr.map_length_blocks hd,
    hr.sum_blockLengths]

/-- In the last, longer column stand the NB2 blocks only. -/
theorem blockColumn_last (hr : r.Sound) (hd : d.length = r.ndata) :
    blockColumn (splitRuns d r.blockLengths) r.nd1 =
      blockColumn ((splitRuns d r.blockLengths).drop r.nb1) r.nd1 := by
  conv_lhs => rw [← List.take_append_drop r.nb1 (splitRuns d r.blockLengths)]
  rw [blockColumn_append, blockColumn_eq_nil fun b hb => ((length_mem_groups hr hd).1 b hb).le, List.nil_append]

/-- Where data codeword j of block b stands: after j full columns and the blocks before it, of which the last,
longer column has those of the second group only (R88). -/
def dataPlace (r : BlockRow) (b j : Nat) : Nat :=
  if j < r.nd1 then j * (r.nb1 + r.nb2) + b else r.nd1 * (r.nb1 + r.nb2) + (b - r.nb1)

/-- Codeword j of block b is codeword s(b) + j of the stream. -/
theorem getElem?_block (r : BlockRow) (d : List Byte) {b j : Nat} (hj : j < blockLen r b) :
    ((d.drop (blockStart r b)).take (blockLen r b))[j]? = d[blockStart r b + j]? := by
  rw [List.getElem?_take_of_lt hj, List.getElem?_drop]

theorem blockStart_add_lt (hr : r.Sound) (hd : d.length = r.ndata) {b j : Nat} (hb : b < r.nb1 + r.nb2)
    (hj : j < blockLen r b) : blockStart r b + j < d.length := by
  have hlen : (splitRuns d r.blockLengths)[b]?.map List.length = some (blockLen r b) := by
    rw [← List.getElem?_map, hr.map_length_blocks hd, blockLengths_eq_map, List.getElem?_map,
      List.getElem?_range hb, Option.map_some]
  rw [getElem?_blocks r d hb, Option.map_some, Option.some.injEq, List.length_take, List.length_drop] at hlen
  omega

/-- Codeword j of block b among the data columns. -/
theorem getElem?_interleave_blocks (hr : r.Sound) (hd : d.length = r.ndata) {b j : Nat}
    (hb : b < r.nb1 + r.nb2) (hj : j < blockLen r b) :
    (interleave (splitRuns d r.blockLengths) r.columns)[dataPlace r b j]? = d[blockStart r b + j]? := by
  have hblock := getElem?_blocks r d hb
  have hlen : ∀ b ∈ splitRuns d r.blockLengths, r.nd1 ≤ b.length := fun b hb =>
    (length_mem_blocks hr hd hb).1
  rw [dataPlace, ← length_blocks r d, ← getElem?_block r d hj]
  split
  · rename_i hlt
    have hcol : r.nd1 ≤ r.columns := by
      rw [BlockRow.columns]
      split <;> omega
    exact getElem?_interleave_full (hlt.trans_le hcol) (fun b hb => hlt.trans_le (hlen b hb)) hblock
  · rename_i hge
    obtain ⟨hb1, rfl⟩ : r.nb1 ≤ b ∧ j = r.nd1 := by
      rw [blockLen] at hj
      split at hj <;> omega
    have hcol : r.nd1 < r.columns := by
      rw [BlockRow.columns, if_pos (by omega)]
      omega
    have hfull : ∀ b ∈ (splitRuns d r.blockLengths).drop r.nb1, r.nd1 < b.length :=
      fun b hb => ((length_mem_groups hr hd).2 b hb).ge
    obtain ⟨i, rfl⟩ := Nat.exists_eq_add_of_le hb1
    rw [← List.getElem?_drop] at hblock
    have hi := lt_length_blockColumn hfull hblock
    rw [← blockColumn_last hr hd] at hi
    rw [Nat.add_sub_cancel_left, getElem?_interleave hcol hlen hi, blockColumn_last hr hd,
      getElem?_blockColumn hfull hblock]

/-- Where the data codewords stand in the final sequence (R88). -/
theorem getElem?_finalCodewords_data (hr : r.Sound) (hd : d.length = r.ndata) {b j : Nat}
    (hb : b < r.nb1 + r.nb2) (hj : j < blockLen r b) :
    (finalCodewords r d)[dataPlace r b j]? = d[blockStart r b + j]? := by
  have h := getElem?_interleave_blocks hr hd hb hj
  have hx := List.getElem?_eq_getElem (blockStart_add_lt hr hd hb hj)
  rw [finalCodewords, List.getElem?_append_left (List.getElem?_eq_some_iff.1 (h.trans hx)).1, h]

/-- Where the EC codewords stand in the final sequence (R88). -/
theorem getElem?_finalCodewords_ec (hr : r.Sound) (hd : d.length = r.ndata) {b j : Nat}
    (hb : b < r.nb1 + r.nb2) (hj : j < r.nec) :
    (finalCodewords r d)[r.ndata + j * (r.nb1 + r.nb2) + b]? =
      (rsrem ((d.drop (blockStart r b)).take (blockLen r b)) r.nec)[j]? := by
  have hec : ∀ e ∈ (splitRuns d r.blockLengths).map fun b => rsrem b r.nec, j < e.length := by
    simpa only [List.forall_mem_map, length_rsrem] using fun _ _ => hj
  have hblock : ((splitRuns d r.blockLengths).map fun b => rsrem b r.nec)[b]? =
      some (rsrem ((d.drop (blockStart r b)).take (blockLen r b)) r.nec) := by
    rw [List.getElem?_map, getElem?_blocks r d hb, Option.map_some]
  have h := getElem?_interleave_full hj hec hblock
  rw [List.length_map, length_blocks] at h
  rw [finalCodewords, Nat.add_assoc, ← length_interleave_blocks hr hd,
    List.getElem?_append_right (Nat.le_add_right _ _), Nat.add_sub_cancel_left, h]

theorem finalCodewords_take_perm (hr : r.Sound) (hd : d.length = r.ndata) :
    ((finalCodewords r d).take r.ndata).Perm d := by
  rw [finalCodewords, List.take_left' (length_interleave_blocks hr hd)]
  refine (interleave_perm _ _ fun b hb => (length_mem_blocks hr hd hb).2).trans ?_
  rw [flatten_splitRuns d _ (hr.sum_blockLengths.trans hd.symm)]

end FinalSequence

/-- Settles O25: the rows of the block table fit the stream, and each column before the last data column has
a codeword of every block. -/
theorem finalSequenceSound : Obligations.FinalSequenceSound := by
  intro v l d hv1 hv40 hl hd
  have hr := blockRow_sound ⟨hv1, hv40⟩ hl
  exact ⟨flatten_splitRuns d _ (hr.sum_blockLengths.trans hd.symm), hr.map_length_blocks hd,
    length_finalCodewords hr hd, finalCodewords_take_perm hr hd,
    fun _ _ => getElem?_finalCodewords_data hr hd, fun _ _ => getElem?_finalCodewords_ec hr hd,
    hr.ntotal_eq, hr.ndata_eq⟩

end Sys2Proof.Machine
end

section
/-! SUPPORT. The commands RSGEN, RSENC and ECCODE: the words of R70, the buffer each of them fills, and what
they leave unchanged: O20, O21 and O26 (spec 41_reed_solomon.md R90 to R92). -/

namespace Sys2Proof.Machine

/-! ### Words as numbers (R26, R70) -/

/-- Format C (R68). -/
theorem cmdWord_eq (f : CmdFields) : f.toWord = BitVec.ofNat 32
    (f.op.toNat + 256 * f.m.toNat + 2048 * f.z.toNat + 65536 * f.n.toNat + 16777216 * f.k.toNat) := by
  apply BitVec.eq_of_toNat_eq
  rw [CmdFields.toWord]
  simp only [toNat_append_eq_add, BitVec.toNat_ofNat]
  omega

theorem encode_rsgen (n : BitVec 8) : encode (.rsgen n) = BitVec.ofNat 32 (0x20 + 65536 * n.toNat) :=
  ((Instr.rsgen n).fieldsOfWord.2.trans (cmdWord_eq _)).trans (congrArg _ (Nat.add_zero _))

theorem encode_rsenc (n k : BitVec 8) :
    encode (.rsenc n k) = BitVec.ofNat 32 (0x21 + 65536 * n.toNat + 16777216 * k.toNat) :=
  (Instr.rsenc n k).fieldsOfWord.2.trans (cmdWord_eq _)

/-- The numbers of a row that BLOCKS holds fit a byte each (R26, R41). -/
theorem blockRow_bytes {v l : Nat} (hv : 1 ≤ v ∧ v ≤ 40) (hl : l < 4) :
    (blockRow v l).nb1 < 256 ∧ (blockRow v l).nd1 < 256 ∧ (blockRow v l).nb2 < 256 ∧
      (blockRow v l).nec < 256 := by
  have h : ∀ v < 41, 1 ≤ v → ∀ l < 4, (blockRow v l).nb1 < 256 ∧ (blockRow v l).nd1 < 256 ∧
      (blockRow v l).nb2 < 256 ∧ (blockRow v l).nec < 256 := by decide +kernel
  exact h v (by omega) hv.1 l hl

/-- BLOCKS (R26). -/
theorem blocksWord_toNat {s : State} (hv : s.VersionLegal) : s.opRow.blocksWord.toNat =
    s.opRow.nb1 + 256 * s.opRow.nd1 + 65536 * s.opRow.nb2 + 16777216 * s.opRow.nec := by
  obtain ⟨hnb1, hnd1, hnb2, hnec⟩ : s.opRow.nb1 < 256 ∧ s.opRow.nd1 < 256 ∧ s.opRow.nb2 < 256 ∧
    s.opRow.nec < 256 := blockRow_bytes hv s.cfg.level.isLt
  rw [BlockRow.blocksWord]
  simp only [toNat_append_eq_add, BitVec.toNat_ofNat]
  omega

/-! ### A buffer that is filled (R90 to R92) -/

section Fill

variable {s : State} (hm : Memory.Wf s.mem) {base size : Nat} {vs : List Byte} (hl : vs.length ≤ size)

include hm hl

/-- A filled buffer holds the bytes and then zeros. -/
theorem memRead_filled {zeros : Nat} (hz : size - vs.length = zeros) :
    (s.fillBuffer base size vs).memRead base 0 size = vs ++ List.replicate zeros 0 := by
  subst hz
  have h := memRead_memWrite hm base 0 (vs ++ List.replicate (size - vs.length) 0)
  rwa [length_fill hl] at h

/-- Filling a buffer leaves every byte outside it. -/
theorem memByte_fillBuffer_outside {a : Nat} (ha : a < base ∨ base + size ≤ a) :
    (s.fillBuffer base size vs).memByte a = s.memByte a := by
  have hb : (s.fillBuffer base size vs).byteAt a = s.byteAt a := by
    refine byteAt_memWrite_outside hm base 0 _ a ?_
    rw [length_fill hl]
    omega
  rw [State.memByte, State.memByte, hb]
  rfl

end Fill

/-! ### The commands -/

/-- Settles O20: RSGEN fills GEN_BUF with the generator polynomial. -/
theorem rsgenResult : Obligations.RsgenResult := by
  refine ⟨raisesBadOp_of_rowOfOp rfl (by decide) (by decide), fun n s => ⟨encode_rsgen n, ?_, ?_⟩⟩
  · rintro (rfl | rfl) <;> rfl
  · intro hm h1 h2
    have hlen := length_rsgen_le h2
    exact ⟨_, exec_of_runs (i := .rsgen n) ⟨h1, h2⟩, rfl,
      memRead_filled hm hlen (by rw [length_genpoly, genBufSize]; omega),
      fun _ => memByte_fillBuffer_outside hm hlen⟩

/-- Settles O21: RSENC fills ECC_BUF with the EC codewords. -/
theorem rsencResult : Obligations.RsencResult := by
  refine ⟨raisesBadOp_of_rowOfOp rfl (by decide) (by decide), fun n k s => ⟨encode_rsenc n k, ?_, ?_⟩⟩
  · intro h
    have hbad : rsEncArgBad n.toNat k.toNat = true := by
      rw [← Bool.not_eq_false, rsEncArgBad_eq_false]
      omega
    exact if_pos hbad
  · intro hm h1 h2 h3 h4
    have hlen := length_rsenc_le (d := s.memRead dataBase 0 k.toNat) h2
    exact ⟨_, exec_of_runs (i := .rsenc n k) ⟨h1, h2, h3, h4⟩, rfl,
      memRead_filled hm hlen (by rw [length_rsrem]; rfl), fun _ => memByte_fillBuffer_outside hm hlen⟩

/-- Settles O26: ECCODE fills CW_BUF with the final codewords; every number of the row fits its register. -/
theorem eccodeResult : Obligations.EccodeResult := by
  refine ⟨rfl, raisesBadOp_of_rowOfOp rfl (by decide) (by decide), fun s =>
    ⟨fun hv => if_pos ((cfgIllegal_eq_true s).2 hv), fun hv hl => ?_, ?_⟩⟩
  · have hcfg : ¬ s.cfgIllegal = true := fun h => (cfgIllegal_eq_true s).1 h hv
    exact (if_neg hcfg).trans (if_pos ((lenWrong_eq_true s).2 hl))
  · intro hm hv hl
    have hlen := length_codewords_le hv
    obtain ⟨-, -, hntotal, hrem⟩ := opRow_sound hv
    have hndata := (opRow_sound hv).ndata_le.trans_lt hntotal
    exact ⟨_, exec_of_runs (i := .eccode) ⟨hv, hl⟩, rfl, Nat.mod_eq_of_lt hntotal, Nat.mod_eq_of_lt hndata,
      Nat.mod_eq_of_lt hrem, blocksWord_toNat hv, memRead_filled hm hlen (by rw [length_codewords hv]; rfl),
      fun _ => memByte_fillBuffer_outside hm hlen⟩

end Sys2Proof.Machine
end

section
/-! SUPPORT. The zig-zag order: no cell twice, its length and its first cells, and the order that data
placement takes from it: O30 and O31. MINIT: O27 (spec 42_matrix_placement.md R93, R104 to R106). -/

namespace Sys2Proof.Machine

/-! ### No cell comes twice (R104) -/

theorem nodup_zigzagPair {side right : Nat} {up : Bool} (h : 1 ≤ right) : (zigzagPair side right up).Nodup := by
  rw [zigzagPair, List.nodup_flatMap]
  refine ⟨fun vert _ => ?_, List.nodup_range.pairwise_of_forall_ne fun a ha b hb hab => ?_⟩
  · simp
    omega
  · rw [List.mem_range] at ha hb
    cases up <;> simp [Function.onFun] <;> omega

/-- A column pair shares no cell with what the walk visits after it, which lies further left. -/
theorem nodup_zigzagFrom {side : Nat} (fuel right : Nat) (hf : right ≤ fuel)
    (hc : (right % 2 = 0 ∧ right ≠ 2 ∧ right ≠ 4) ∨ right = 3 ∨ right = 1) :
    (zigzagFrom side fuel right).Nodup := by
  induction fuel generalizing right with
  | zero => exact List.nodup_nil
  | succ fuel ih =>
    have hpair : ∀ k, 1 ≤ k → k ≤ fuel + 1 →
        ((k - 2) % 2 = 0 ∧ k - 2 ≠ 2 ∧ k - 2 ≠ 4) ∨ k - 2 = 3 ∨ k - 2 = 1 →
        (zigzagPair side k ((k + 1) &&& 2 == 0) ++ zigzagFrom side fuel (k - 2)).Nodup := by
      intro k h1 h2 h3
      refine (nodup_zigzagPair h1).append (ih _ (by omega) h3) fun p hp hq => ?_
      have hp' := (mem_zigzagPair h1 p.1 p.2).1 hp
      have hq' := (mem_zigzagFrom fuel _ (by omega) h3 p.1 p.2).1 hq
      omega
    rw [zigzagFrom]
    split
    · exact List.nodup_nil
    · dsimp only
      split <;> exact hpair _ (by omega) (by omega) (by omega)

theorem nodup_zigzag (v : Nat) : (zigzag (sideOf v)).Nodup :=
  nodup_zigzagFrom _ _ (by omega) (by simp only [sideOf]; omega)

/-- The order has as many cells as the symbol without column 6, for it visits each of them once. -/
theorem length_zigzag {v : Nat} (hv : 1 ≤ v ∧ v ≤ 40) :
    (zigzag (sideOf v)).length = sideOf v * (sideOf v - 1) := by
  have h : (zigzag (sideOf v)).toFinset = Finset.range (sideOf v) ×ˢ (Finset.range (sideOf v)).erase 6 := by
    ext ⟨r, c⟩
    simp [mem_zigzag hv]
    tauto
  have h6 : 6 ∈ Finset.range (sideOf v) := Finset.mem_range.2 (by simp only [sideOf]; omega)
  rw [← List.toFinset_card_of_nodup (nodup_zigzag v), h, Finset.card_product, Finset.card_erase_of_mem h6,
    Finset.card_range]

/-! ### The first cells (R104) -/

theorem length_zigzagPair (side right : Nat) (up : Bool) : (zigzagPair side right up).length = side * 2 := by
  simp [zigzagPair, List.length_flatMap]

theorem take_zigzagPair_upward {side : Nat} (hs : 2 ≤ side) (right : Nat) :
    (zigzagPair side right true).take 4 =
      [(side - 1, right), (side - 1, right - 1), (side - 2, right), (side - 2, right - 1)] := by
  obtain ⟨n, rfl⟩ := Nat.exists_eq_add_of_le' hs
  simp [zigzagPair, List.range_succ_eq_map]

/-- The walk begins upward, since S is 1 modulo 4. -/
theorem zigzag_eq_append {v : Nat} (hv : 1 ≤ v ∧ v ≤ 40) : ∃ rest,
    zigzag (sideOf v) = zigzagPair (sideOf v) (sideOf v - 1) true ++ rest := by
  have hup : ∀ v < 41, sideOf v &&& 2 = 0 := by decide
  have hs : sideOf v = 4 * v + 16 + 1 := rfl
  refine ⟨zigzagFrom (sideOf v) (4 * v + 16) (sideOf v - 3), ?_⟩
  rw [zigzag]
  conv_lhs => arg 2; rw [hs]
  rw [zigzagFrom, if_neg (by omega), if_neg (by omega)]
  simp [Nat.sub_add_cancel (show 1 ≤ sideOf v by omega), hup v (by omega), Nat.sub_sub]

theorem take_zigzag {v : Nat} (hv : 1 ≤ v ∧ v ≤ 40) : (zigzag (sideOf v)).take 4 =
    [(sideOf v - 1, sideOf v - 1), (sideOf v - 1, sideOf v - 2), (sideOf v - 2, sideOf v - 1),
      (sideOf v - 2, sideOf v - 2)] := by
  have hs := (sideOf_bounds hv).1
  obtain ⟨rest, hz⟩ := zigzag_eq_append hv
  rw [hz, List.take_append_of_le_length (by rw [length_zigzagPair]; omega),
    take_zigzagPair_upward (by omega), Nat.sub_sub]

/-- Settles O30: the column pairs are disjoint and cover the symbol but for column 6. -/
theorem zigzagVisitsEachCellOnce : Obligations.ZigzagVisitsEachCellOnce := fun v h1 h2 =>
  ⟨nodup_zigzag v, length_zigzag ⟨h1, h2⟩, mem_zigzag ⟨h1, h2⟩, take_zigzag ⟨h1, h2⟩⟩

/-! ### Data placement (R105) -/

theorem nodup_dataCells (m : Mat) (v : Nat) : (dataCells m (sideOf v)).Nodup := (nodup_zigzag v).filter _

/-- Bit i of a sequence of codewords is bit 7 - (i mod 8) of codeword i / 8 (R9). -/
theorem getElem?_flatMap_msbFirst (cw : List Byte) (i : Nat) :
    (cw.flatMap msbFirst)[i]? = cw[i / 8]?.map fun b => b.getLsbD (7 - i % 8) := by
  induction cw generalizing i with
  | nil => simp
  | cons b cw ih =>
    rw [List.flatMap_cons]
    by_cases hi : i < 8
    · rw [List.getElem?_append_left (by simpa [msbFirst] using hi), Nat.div_eq_of_lt hi, Nat.mod_eq_of_lt hi]
      simp [msbFirst, hi]
    · obtain ⟨n, rfl⟩ := Nat.exists_eq_add_of_le (not_lt.1 hi)
      rw [List.getElem?_append_right (by simp [msbFirst])]
      simpa [msbFirst] using ih n

/-- The bit for the i-th data cell: that of the codewords, and light past them. -/
def placedBit (cw : List Byte) (i : Nat) : Bool :=
  if i < 8 * cw.length then (cw.getD (i / 8) 0).getLsbD (7 - i % 8) else false

theorem getElem?_placedBits (cw : List Byte) {n i : Nat} (hi : i < n) :
    (cw.flatMap msbFirst ++ List.replicate n false)[i]? = some (placedBit cw i) := by
  have hl : (cw.flatMap msbFirst).length = 8 * cw.length := by
    simp [msbFirst, List.length_flatMap, mul_comm]
  rw [placedBit]
  split
  next h =>
    have h8 : i / 8 < cw.length := by omega
    rw [List.getElem?_append_left (by omega), getElem?_flatMap_msbFirst]
    simp [h8]
  next h => rw [List.getElem?_append_right (by omega), List.getElem?_replicate_of_lt (by omega)]

/-- The i-th data cell holds the i-th bit: no cell comes twice in the order, so no later write changes it. -/
theorem cell_placeData_getElem? {m : Mat} (h : Mat.Wf m) {side i r c : Nat} (cw : List Byte)
    (hn : (dataCells m side).Nodup) (hp : (dataCells m side)[i]? = some (r, c))
    (hr : r < maxSide) (hc : c < maxSide) :
    Mat.cell (placeData m side cw) r c = MCell.data (placedBit cw i) := by
  obtain ⟨hi, -⟩ := List.getElem?_eq_some_iff.1 hp
  have hb := getElem?_placedBits cw hi
  refine Mat.cell_setAll_of_mem h _ r c _ hr hc ?_ fun w hw he => ?_
  · exact List.mem_of_getElem? (List.getElem?_zipWith_eq_some.2 ⟨_, _, hp, hb, rfl⟩)
  · obtain ⟨j, hj⟩ := List.mem_iff_getElem?.1 hw
    obtain ⟨p, b, hp', hb', rfl⟩ := List.getElem?_zipWith_eq_some.1 hj
    obtain rfl : i = j := (List.getElem?_inj hi hn).1 (by rw [hp, hp', ← he])
    rw [Option.some.inj (hb'.symm.trans hb)]

/-- The bits that MDATA places are those of CW_BUF[0..NTOTAL) (R106). -/
theorem placedBit_memRead (s : State) (n i : Nat) : placedBit (s.memRead cwBase 0 n) i =
    if i < 8 * n then (s.byteAt (cwBase + i / 8)).getLsbD (7 - i % 8) else false := by
  rw [placedBit, length_memRead]
  refine if_ctx_congr Iff.rfl (fun h => ?_) fun _ => rfl
  have h8 : i / 8 < n := by omega
  simp [State.memRead, h8]

/-! ### The commands MDATA and MINIT -/

/-- With its first check passed and its second failed a command answers the second's error. -/
theorem second_check_fails {c d : Bool} {x y z : Host.Outcome State Fault Refusal} (hc : c = false)
    (hd : ¬ d = false) : (if c then x else if d then y else z) = y := by
  simp [hc, hd]

/-- Settles O31: the data cells are written once each, in the order Z(S). -/
theorem mdataResult : Obligations.MdataResult := by
  refine ⟨rfl, raisesBadOp_of_rowOfOp rfl (by decide) (by decide), fun s =>
    ⟨fun hv => if_pos ((cfgIllegal_eq_true s).2 hv), fun hv hs => ?_, fun hv hs hcwv hm => ?_⟩⟩
  · refine second_check_fails ((cfgIllegal_eq_false s).2 hv) ?_
    rw [seqMdata_eq_false, not_and_or, Bool.not_eq_true]
    exact hs
  · refine ⟨_, exec_of_runs (i := .mdata) ⟨hv, hs, hcwv⟩, rfl, fun i p hp => ?_,
      fun r c hn => cell_placeData_other hm _ hn⟩
    have hin := ((mem_dataCells hv).1 (List.mem_of_getElem? hp)).1
    have hb := (sideOf_bounds hv).2
    exact (cell_placeData_getElem? hm _ (nodup_dataCells _ _) hp (by omega) (by omega)).trans
      (congrArg MCell.data (placedBit_memRead s _ i))

theorem matByte_minitBody (s : State) (i : Nat) : s.minitBody.matByte i = 0 := by
  simp only [State.matByte, minitBody_mat, cell_replicate_unset]
  exact ite_self 0

/-- Settles O27: MINIT leaves a cleared matrix, and the side fits SIDE. -/
theorem minitResult : Obligations.MinitResult :=
  ⟨rfl, raisesBadOp_of_rowOfOp rfl (by decide) (by decide), fun s =>
    ⟨fun hv => if_pos ((cfgIllegal_eq_true s).2 hv), fun hv =>
      ⟨_, exec_of_runs (i := .minit) hv, rfl, side_toNat hv, replicate_wf _, cell_replicate_unset,
        matByte_minitBody s⟩⟩⟩

end Sys2Proof.Machine
end

section
/-! SUPPORT. The function patterns cell by cell: which cells each region names and with what content, that
the content depends on the position alone, so that no write of MFUNC undoes another, and MFUNC: O28 (spec
42_matrix_placement.md R94 to R103). Positions are compared with S by addition only. -/

namespace Sys2Proof.Machine

/-! ### The regions (R94 to R100) -/

theorem mem_finderAt {r c i j : Nat} {x : MCell} : ((i, j), x) ∈ finderAt r c ↔
    (r ≤ i ∧ i < r + 7 ∧ c ≤ j ∧ j < c + 7) ∧
      x = MCell.function (max (natDist (i - r) 3) (natDist (j - c) 3) != 2) := by
  simp only [finderAt, List.mem_flatMap, List.mem_map, List.mem_range, Prod.mk.injEq]
  constructor
  · rintro ⟨dr, h1, dc, h2, ⟨rfl, rfl⟩, rfl⟩
    exact ⟨by omega, by rw [Nat.add_sub_cancel_left, Nat.add_sub_cancel_left]⟩
  · rintro ⟨h, rfl⟩
    exact ⟨i - r, by omega, j - c, by omega, by omega, rfl⟩

theorem mem_separatorCells {side i j : Nat} (hs : 21 ≤ side) {x : MCell} : ((i, j), x) ∈ separatorCells side ↔
    ((i < 8 ∧ j < 8 ∧ (i = 7 ∨ j = 7)) ∨ (i < 8 ∧ side ≤ j + 8 ∧ j < side ∧ (i = 7 ∨ j + 8 = side)) ∨
      (side ≤ i + 8 ∧ i < side ∧ j < 8 ∧ (i + 8 = side ∨ j = 7))) ∧ x = MCell.function false := by
  simp only [separatorCells, List.mem_map, List.mem_flatMap, List.mem_range, List.mem_cons,
    List.not_mem_nil, or_false]
  constructor
  · rintro ⟨p, ⟨k, hk, rfl | rfl | rfl | rfl | rfl | rfl⟩, he⟩ <;>
    · simp only [Prod.mk.injEq] at he
      exact ⟨by omega, he.2.symm⟩
  · rintro ⟨h, rfl⟩
    refine ⟨(i, j), ?_, rfl⟩
    simp only [Prod.mk.injEq]
    by_cases h7 : i = 7 ∨ i + 8 = side
    · by_cases hj : j < 8
      · exact ⟨j, by grind⟩
      · exact ⟨j - (side - 8), by grind⟩
    · by_cases hi : i < 8
      · exact ⟨i, by grind⟩
      · exact ⟨i - (side - 8), by grind⟩

theorem mem_timingCells {side i j : Nat} {x : MCell} : ((i, j), x) ∈ timingCells side ↔
    ((i = 6 ∧ 8 ≤ j ∧ j + 8 < side) ∨ (j = 6 ∧ 8 ≤ i ∧ i + 8 < side)) ∧
      x = MCell.function ((i + j) % 2 == 0) := by
  have h6 : ∀ k, (6 + (8 + k)) % 2 = (8 + k) % 2 := fun k => by omega
  simp only [timingCells, List.mem_flatMap, List.mem_range, List.mem_cons, Prod.mk.injEq, List.not_mem_nil,
    or_false]
  constructor
  · rintro ⟨k, hk, ⟨⟨rfl, rfl⟩, rfl⟩ | ⟨⟨rfl, rfl⟩, rfl⟩⟩
    · exact ⟨by omega, by rw [h6]⟩
    · exact ⟨by omega, by rw [Nat.add_comm _ 6, h6]⟩
  · rintro ⟨⟨rfl, h1, h2⟩ | ⟨rfl, h1, h2⟩, rfl⟩
    · obtain ⟨k, rfl⟩ := Nat.exists_eq_add_of_le h1
      exact ⟨k, by omega, .inl ⟨⟨rfl, rfl⟩, by rw [h6]⟩⟩
    · obtain ⟨k, rfl⟩ := Nat.exists_eq_add_of_le h1
      exact ⟨k, by omega, .inr ⟨⟨rfl, rfl⟩, by rw [Nat.add_comm _ 6, h6]⟩⟩

theorem mem_alignmentAt {r c i j : Nat} (hr : 2 ≤ r) (hc : 2 ≤ c) {x : MCell} : ((i, j), x) ∈ alignmentAt r c ↔
    (natDist i r ≤ 2 ∧ natDist j c ≤ 2) ∧ x = MCell.function (max (natDist i r) (natDist j c) != 1) := by
  have hd : ∀ {a x r}, 2 ≤ r → r + a - 2 = x → natDist a 2 = natDist x r := by
    intro a x r h1 h2
    simp only [natDist]
    omega
  simp only [alignmentAt, List.mem_flatMap, List.mem_map, List.mem_range, Prod.mk.injEq]
  constructor
  · rintro ⟨a, h1, b, h2, ⟨h3, h4⟩, rfl⟩
    rw [← hd hr h3, ← hd hc h4]
    exact ⟨by simp only [natDist]; omega, rfl⟩
  · rintro ⟨h, rfl⟩
    simp only [natDist] at h
    have h3 : r + (i + 2 - r) - 2 = i := by omega
    have h4 : c + (j + 2 - c) - 2 = j := by omega
    exact ⟨i + 2 - r, by omega, j + 2 - c, by omega, ⟨h3, h4⟩, by rw [hd hr h3, hd hc h4]⟩

theorem mem_fc1 {i j : Nat} : (i, j) ∈ fc1 ↔ (i = 8 ∧ j < 9 ∧ j ≠ 6) ∨ (j = 8 ∧ i < 9 ∧ i ≠ 6) := by
  have h : ∀ i < 9, ∀ j < 9, (i, j) ∈ fc1 ↔ (i = 8 ∧ j ≠ 6) ∨ (j = 8 ∧ i ≠ 6) := by decide
  have hb : ∀ p ∈ fc1, p.1 < 9 ∧ p.2 < 9 := by decide
  refine ⟨fun hp => ?_, fun hp => (h i (by omega) j (by omega)).2 (by omega)⟩
  obtain ⟨hi, hj⟩ := hb _ hp
  have hij := (h i hi j hj).1 hp
  omega

/-- FC2 is the end of row 8 and then the end of column 8. -/
theorem fc2_eq (side : Nat) : fc2 side =
    ((List.range 8).map fun k => (8, side - (k + 1))) ++ (List.range 7).map fun k => (side - (7 - k), 8) := rfl

theorem mem_fc2 {side i j : Nat} (hs : 21 ≤ side) : (i, j) ∈ fc2 side ↔
    (i = 8 ∧ side ≤ j + 8 ∧ j < side) ∨ (j = 8 ∧ side < i + 8 ∧ i < side) := by
  simp only [fc2_eq, List.mem_append, List.mem_map, List.mem_range, Prod.mk.injEq]
  refine or_congr ⟨fun ⟨k, hk, h⟩ => ?_, fun h => ⟨side - 1 - j, ?_⟩⟩
    ⟨fun ⟨k, hk, h⟩ => ?_, fun h => ⟨7 + i - side, ?_⟩⟩ <;> omega

theorem mem_vc1 {side i j : Nat} (hs : 21 ≤ side) :
    (i, j) ∈ vc1 side ↔ i < 6 ∧ side ≤ j + 11 ∧ j + 8 < side := by
  simp only [vc1, List.mem_map, List.mem_range, Prod.mk.injEq]
  exact ⟨fun ⟨k, hk, h⟩ => by omega, fun h => ⟨3 * i + (j - (side - 11)), by omega⟩⟩

theorem mem_vc2 {side i j : Nat} (hs : 21 ≤ side) :
    (i, j) ∈ vc2 side ↔ j < 6 ∧ side ≤ i + 11 ∧ i + 8 < side := by
  simp only [vc2, List.mem_map, List.mem_range, Prod.mk.injEq]
  exact ⟨fun ⟨k, hk, h⟩ => by omega, fun h => ⟨3 * j + (i - (side - 11)), by omega⟩⟩

theorem mem_reservedCells {v i j : Nat} (hs : 21 ≤ sideOf v) : (i, j) ∈ reservedCells v ↔
    (i = 8 ∧ (j < 9 ∧ j ≠ 6 ∨ sideOf v ≤ j + 8 ∧ j < sideOf v)) ∨
    (j = 8 ∧ (i < 9 ∧ i ≠ 6 ∨ sideOf v < i + 8 ∧ i < sideOf v)) ∨
    (7 ≤ v ∧ ((i < 6 ∧ sideOf v ≤ j + 11 ∧ j + 8 < sideOf v) ∨
      (j < 6 ∧ sideOf v ≤ i + 11 ∧ i + 8 < sideOf v))) := by
  rw [reservedCells, List.mem_append, List.mem_append, mem_fc1, mem_fc2 hs]
  by_cases hv : v ≥ 7
  · rw [if_pos hv, List.mem_append, mem_vc1 hs, mem_vc2 hs]
    grind
  · rw [if_neg hv]
    grind

/-! ### Alignment centres (R42, R97) -/

/-- The alignment coordinates are even and begin with 6; those between 6 and S - 7 keep clear of the
corners. -/
theorem alignPos_spec {v : Nat} (hv : v ≤ 40) : ∀ r ∈ alignPos v, 6 ∈ alignPos v ∧ r % 2 = 0 ∧
    (r = 6 ∨ r + 7 = sideOf v ∨ 11 ≤ r ∧ r + 13 < sideOf v) := by
  have h : ∀ v < 41, ∀ r ∈ alignPos v, 6 ∈ alignPos v ∧ r % 2 = 0 ∧
    (r = 6 ∨ r + 7 = sideOf v ∨ 11 ≤ r ∧ r + 13 < sideOf v) := by decide +kernel
  exact h v (by omega)

theorem mem_alignmentCentres {v r c : Nat} : (r, c) ∈ alignmentCentres v ↔ (r ∈ alignPos v ∧ c ∈ alignPos v) ∧
    ¬ (r = 6 ∧ c = 6) ∧ ¬ (r = 6 ∧ c + 7 = sideOf v) ∧ ¬ (r + 7 = sideOf v ∧ c = 6) := by
  have h7 : ∀ x, x + 7 = sideOf v ↔ x = sideOf v - 7 := fun x => by
    simp only [sideOf]
    omega
  simp [alignmentCentres, h7, and_assoc]

theorem mem_alignmentCells {v i j : Nat} (hv : v ≤ 40) {x : MCell} : ((i, j), x) ∈ alignmentCells v ↔
    ∃ r c, (r, c) ∈ alignmentCentres v ∧ (natDist i r ≤ 2 ∧ natDist j c ≤ 2) ∧
      x = MCell.function (max (natDist i r) (natDist j c) != 1) := by
  have h2 : ∀ r ∈ alignPos v, 2 ≤ r := fun r hr => by
    have h := (alignPos_spec hv r hr).2.2
    simp only [sideOf] at h
    omega
  rw [alignmentCells, List.mem_flatMap, Prod.exists]
  refine exists_congr fun r => exists_congr fun c => and_congr_right fun hp => ?_
  obtain ⟨⟨hr, hc⟩, -⟩ := mem_alignmentCentres.1 hp
  exact mem_alignmentAt (h2 r hr) (h2 c hc)

theorem natDist_le_iff {x y n : Nat} : natDist x y ≤ n ↔ x ≤ y + n ∧ y ≤ x + n := by
  simp only [natDist]
  omega

/-- An alignment pattern keeps clear of the three corners and the version cells; only patterns centred on a
timing line come near the rows and columns of the corners. -/
theorem alignment_clear {v r c i j : Nat} (hv : 1 ≤ v ∧ v ≤ 40) (h : (r, c) ∈ alignmentCentres v)
    (hn : natDist i r ≤ 2 ∧ natDist j c ≤ 2) : 4 ≤ i ∧ 4 ≤ j ∧ i + 4 < sideOf v ∧ j + 4 < sideOf v ∧
      (i < 9 → 9 ≤ j ∧ j + 11 < sideOf v ∧ r = 6) ∧ (j < 9 → 9 ≤ i ∧ i + 11 < sideOf v ∧ c = 6) := by
  obtain ⟨⟨hr, hc⟩, hcorner⟩ := mem_alignmentCentres.1 h
  have hr := (alignPos_spec hv.2 r hr).2.2
  have hc := (alignPos_spec hv.2 c hc).2.2
  have hs := (sideOf_bounds hv).1
  rw [natDist_le_iff, natDist_le_iff] at hn
  grind

/-! ### The colour of a position -/

/-- The distance from the nearer border. -/
def borderDist (side x : Nat) : Nat := min x (side - 1 - x)

/-- The distance from the alignment coordinate nearby, for a coordinate at most two away from one. -/
def alignDist (v x : Nat) : Nat :=
  if x ∈ alignPos v then 0 else if x + 1 ∈ alignPos v ∨ x - 1 ∈ alignPos v then 1 else 2

/-- The colour of a coloured function cell, from its position alone: rings about the centre of a finder in
the three corners, even positions of the timing lines, the dark module, rings about an alignment centre. -/
def cellDark (v i j : Nat) : Bool :=
  if borderDist (sideOf v) i < 8 ∧ borderDist (sideOf v) j < 8 ∧ (i < 8 ∨ j < 8) then
    let d := max (natDist (borderDist (sideOf v) i) 3) (natDist (borderDist (sideOf v) j) 3)
    d != 2 && d != 4
  else if i = 6 ∨ j = 6 then (i + j) % 2 == 0
  else if i + 8 = sideOf v ∧ j = 8 then true
  else max (alignDist v i) (alignDist v j) != 1

/-- Two alignment coordinates are further apart than the width of a pattern. -/
theorem alignDist_eq {v x r : Nat} (hv : v ≤ 40) (hr : r ∈ alignPos v) (h : natDist x r ≤ 2) :
    alignDist v x = natDist x r := by
  have hd : ∀ v < 41, ∀ r ∈ alignPos v, 2 ≤ r ∧ ∀ k < 5, alignDist v (r + k - 2) = natDist k 2 := by
    decide +kernel
  obtain ⟨h2, hk⟩ := hd v (by omega) r hr
  simp only [natDist] at h
  have hx := hk (x + 2 - r) (by omega)
  rw [show r + (x + 2 - r) - 2 = x by omega] at hx
  rw [hx]
  simp only [natDist]
  omega

/-- Along one axis a finder measures from the border it touches. -/
theorem finder_borderDist {side k i : Nat} (hs : 21 ≤ side) (hk : k = 0 ∨ k = side - 7) (h1 : k ≤ i)
    (h2 : i < k + 7) : natDist (i - k) 3 = natDist (borderDist side i) 3 ∧ borderDist side i < 7 := by
  simp only [natDist, borderDist]
  omega

section Dark

variable {v i j : Nat}

theorem cellDark_finder (hs : 21 ≤ sideOf v) {r c : Nat}
    (hrc : (r, c) ∈ [(0, 0), (0, sideOf v - 7), (sideOf v - 7, 0)])
    (h : r ≤ i ∧ i < r + 7 ∧ c ≤ j ∧ j < c + 7) :
    cellDark v i j = (max (natDist (i - r) 3) (natDist (j - c) 3) != 2) := by
  simp only [List.mem_cons, Prod.mk.injEq, List.not_mem_nil, or_false] at hrc
  obtain ⟨h1, h2, h3, h4⟩ := h
  obtain ⟨hi, hi'⟩ := finder_borderDist hs (show r = 0 ∨ r = sideOf v - 7 by omega) h1 h2
  obtain ⟨hj, hj'⟩ := finder_borderDist hs (show c = 0 ∨ c = sideOf v - 7 by omega) h3 h4
  have hd : max (natDist (borderDist (sideOf v) i) 3) (natDist (borderDist (sideOf v) j) 3) ≠ 4 := by
    simp only [natDist]
    omega
  rw [cellDark, if_pos (by omega), hi, hj]
  simp [hd]

theorem cellDark_separator (hs : 21 ≤ sideOf v) (h : (i < 8 ∧ j < 8 ∧ (i = 7 ∨ j = 7)) ∨
    (i < 8 ∧ sideOf v ≤ j + 8 ∧ j < sideOf v ∧ (i = 7 ∨ j + 8 = sideOf v)) ∨
    (sideOf v ≤ i + 8 ∧ i < sideOf v ∧ j < 8 ∧ (i + 8 = sideOf v ∨ j = 7))) : cellDark v i j = false := by
  obtain ⟨hi, hj, h7⟩ : borderDist (sideOf v) i < 8 ∧ borderDist (sideOf v) j < 8 ∧
      (borderDist (sideOf v) i = 7 ∨ borderDist (sideOf v) j = 7) := by
    simp only [borderDist]
    omega
  have hd : max (natDist (borderDist (sideOf v) i) 3) (natDist (borderDist (sideOf v) j) 3) = 4 := by
    simp only [natDist]
    omega
  rw [cellDark, if_pos ⟨hi, hj, by omega⟩]
  simp [hd]

theorem cellDark_timing (h : (i = 6 ∧ 8 ≤ j ∧ j + 8 < sideOf v) ∨ (j = 6 ∧ 8 ≤ i ∧ i + 8 < sideOf v)) :
    cellDark v i j = ((i + j) % 2 == 0) := by
  rw [cellDark, if_neg (by simp only [borderDist]; omega), if_pos (by omega)]

/-- Where an alignment pattern crosses a timing line both have the same colours. -/
theorem cellDark_alignment (hv : 1 ≤ v ∧ v ≤ 40) {r c : Nat} (h : (r, c) ∈ alignmentCentres v)
    (hn : natDist i r ≤ 2 ∧ natDist j c ≤ 2) : cellDark v i j = (max (natDist i r) (natDist j c) != 1) := by
  have hclear := alignment_clear hv h hn
  obtain ⟨⟨hr, hc⟩, -⟩ := mem_alignmentCentres.1 h
  have hr2 := (alignPos_spec hv.2 r hr).2.1
  have hc2 := (alignPos_spec hv.2 c hc).2.1
  rw [cellDark, if_neg (by simp only [borderDist]; omega)]
  split
  next h6 =>
    rw [Bool.eq_iff_iff, beq_iff_eq, bne_iff_ne]
    simp only [natDist] at *
    omega
  next h6 => rw [if_neg (by omega), alignDist_eq hv.2 hr hn.1, alignDist_eq hv.2 hc hn.2]

theorem cellDark_darkModule (hs : 21 ≤ sideOf v) : cellDark v (sideOf v - 8) 8 = true := by
  rw [cellDark, if_neg (by simp only [borderDist]; omega), if_neg (by omega), if_pos (by omega)]

end Dark

/-! ### The content of a position, and MFUNC (R103) -/

/-- A coloured write has the colour of its position, and its cell is no reserved one. -/
theorem colouredWrites_dark {v : Nat} (hv : 1 ≤ v ∧ v ≤ 40) : ∀ w ∈ colouredWrites v,
    w.1 ∉ reservedCells v ∧ w.2 = MCell.function (cellDark v w.1.1 w.1.2) := by
  have hs := (sideOf_bounds hv).1
  rintro ⟨⟨i, j⟩, x⟩ hw
  simp only [colouredWrites, finderCells, List.mem_append, mem_finderAt, mem_separatorCells hs,
    mem_timingCells, mem_alignmentCells hv.2, darkModule, List.mem_singleton, Prod.mk.injEq] at hw
  rw [mem_reservedCells hs]
  obtain (((((⟨h, rfl⟩ | ⟨h, rfl⟩) | ⟨h, rfl⟩) | ⟨h, rfl⟩) | ⟨h, rfl⟩) | ⟨r, c, hrc, h, rfl⟩) |
    ⟨⟨rfl, rfl⟩, rfl⟩ := hw
  · exact ⟨by omega, by rw [cellDark_finder hs (by simp) h]⟩
  · exact ⟨by omega, by rw [cellDark_finder hs (by simp) h]⟩
  · exact ⟨by omega, by rw [cellDark_finder hs (by simp) h]⟩
  · exact ⟨by omega, by rw [cellDark_separator hs h]⟩
  · exact ⟨by omega, by rw [cellDark_timing h]⟩
  · have hclear := alignment_clear hv hrc h
    exact ⟨by omega, by rw [cellDark_alignment hv hrc h]⟩
  · exact ⟨by omega, by rw [cellDark_darkModule hs]⟩

/-- The content of a function cell. -/
def functionContent (v : Nat) (p : Nat × Nat) : MCell :=
  if p ∈ reservedCells v then MCell.reserved else MCell.function (cellDark v p.1 p.2)

theorem functionWrites_content {v : Nat} (hv : 1 ≤ v ∧ v ≤ 40) :
    ∀ w ∈ functionWrites v, w.2 = functionContent v w.1 := by
  intro w hw
  rw [functionWrites_eq, List.mem_append, List.mem_map] at hw
  obtain hw | ⟨p, hp, rfl⟩ := hw
  · obtain ⟨hn, hx⟩ := colouredWrites_dark hv w hw
    rw [functionContent, if_neg hn, hx]
  · exact (if_pos hp).symm

/-- Every write of MFUNC stands in the end: a later one to the same cell has the same content. -/
theorem cell_functionWrites {m : Mat} (h : Mat.Wf m) {v r c : Nat} {x : MCell} (hv : 1 ≤ v ∧ v ≤ 40)
    (hw : ((r, c), x) ∈ functionWrites v) : Mat.cell (Mat.setAll m (functionWrites v)) r c = x := by
  have hb := (sideOf_bounds hv).2
  obtain ⟨hr, hc⟩ := functionWrites_inside hv _ hw
  refine Mat.cell_setAll_of_mem h _ r c x (hr.trans_le hb) (hc.trans_le hb) hw fun w' hw' he => ?_
  rw [functionWrites_content hv w' hw', he, ← functionWrites_content hv _ hw]

/-- MFUNC leaves every cell that no write names. -/
theorem cell_functionWrites_other {m : Mat} (h : Mat.Wf m) {v r c : Nat}
    (hn : ∀ x, ((r, c), x) ∉ functionWrites v) :
    Mat.cell (Mat.setAll m (functionWrites v)) r c = Mat.cell m r c :=
  Mat.cell_setAll_of_not_mem h _ r c fun w hw he => hn w.2 (by rw [← he]; exact hw)

theorem mfuncBody_eq (s : State) : s.mfuncBody =
    { s with mat := s.mfuncBody.mat, status := { s.status with mstage := 2 } } := by
  rw [State.mfuncBody]
  generalize functionWrites s.opV = ws
  rfl

/-- Settles O28: the regions agree where they meet, so each keeps its content. -/
theorem mfuncResult : Obligations.MfuncResult := by
  refine ⟨rfl, raisesBadOp_of_rowOfOp rfl (by decide) (by decide), fun s =>
    ⟨fun hv => if_pos ((cfgIllegal_eq_true s).2 hv), fun hv hs => ?_, fun hv hs hm => ?_⟩⟩
  · exact second_check_fails ((cfgIllegal_eq_false s).2 hv) (mt (seqMfunc_eq_false s).1 hs)
  · refine ⟨s.mfuncBody.complete 0x31, exec_of_runs (i := .mfunc) ⟨hv, hs⟩, ?_⟩
    rw [complete_mat]
    refine ⟨congrArg (State.complete · 0x31) (mfuncBody_eq s), ?_⟩
    rw [mfuncBody_mat]
    refine ⟨fun ⟨⟨r, c⟩, x⟩ hw => ?_, fun p hp => ?_, fun r c => cell_functionWrites_other hm⟩
    · rw [State.opSide] at hw
      exact cell_functionWrites hm hv (List.mem_append_left _ hw)
    · have hw : (p, MCell.reserved) ∈ functionWrites s.opV := by
        rw [functionWrites_eq]
        exact List.mem_append_right _ (List.mem_map_of_mem hp)
      exact cell_functionWrites hm hv hw

end Sys2Proof.Machine
end

section
/-! SUPPORT. The number of data cells: the cells that no function pattern names are three regions of the
symbol, counted by their rows and columns: O29 (spec 42_matrix_placement.md R102). -/

namespace Sys2Proof.Machine

/-! ### The cells that the alignment patterns name (R97) -/

/-- The coordinates at most two away from one of the given ones. -/
def band (F : Finset Nat) : Finset Nat := F.biUnion fun r => Finset.Icc (r - 2) (r + 2)

theorem mem_band {F : Finset Nat} {x : Nat} : x ∈ band F ↔ ∃ r ∈ F, natDist x r ≤ 2 := by
  simp only [band, Finset.mem_biUnion, Finset.mem_Icc, natDist_le_iff]
  exact exists_congr fun r => and_congr_right fun _ => by omega

/-- The alignment coordinates after 6. -/
def laterCentres (v : Nat) : Finset Nat := (alignPos v).toFinset.erase 6

/-- The alignment coordinates between 6 and S - 7. -/
def middleCentres (v : Nat) : Finset Nat := (laterCentres v).erase (sideOf v - 7)

/-- The bands of different alignment coordinates do not meet. -/
theorem card_band {v : Nat} (hv : v ≤ 40) {F : Finset Nat} (hF : F ⊆ laterCentres v) :
    (band F).card = 5 * F.card := by
  have h : ∀ v < 41, ∀ r ∈ alignPos v, 2 ≤ r ∧ ∀ r' ∈ alignPos v, r = r' ∨ r + 4 < r' ∨ r' + 4 < r := by
    decide +kernel
  have hpos : ∀ r ∈ F, r ∈ alignPos v := fun r hr => List.mem_toFinset.1 (Finset.mem_of_mem_erase (hF hr))
  rw [band, Finset.card_biUnion, Finset.sum_const_nat (m := 5), mul_comm]
  · intro r hr
    have h2 := (h v (by omega) r (hpos r hr)).1
    rw [Nat.card_Icc]
    omega
  · intro r hr r' hr' hne
    have hfar := (h v (by omega) r (hpos r hr)).2 r' (hpos r' hr')
    refine Finset.disjoint_left.2 fun x hx hx' => ?_
    rw [Finset.mem_Icc] at hx hx'
    omega

/-- The bands keep clear of the first rows and columns, the middle ones of the version cells too. -/
theorem band_bounds {v x : Nat} (hv : 1 ≤ v ∧ v ≤ 40) :
    (x ∈ band (laterCentres v) → 9 ≤ x ∧ x < sideOf v) ∧
      (x ∈ band (middleCentres v) → 9 ≤ x ∧ x + 11 < sideOf v) := by
  have hs := (sideOf_bounds hv).1
  simp only [mem_band, middleCentres, laterCentres, Finset.mem_erase, List.mem_toFinset, natDist_le_iff]
  refine ⟨fun ⟨r, ⟨h6, hr⟩, h⟩ => ?_, fun ⟨r, ⟨h7, h6, hr⟩, h⟩ => ?_⟩ <;>
  · have hpos := (alignPos_spec hv.2 r hr).2.2
    omega

/-- The alignment patterns cover the square of the later bands, and beside the timing lines the middle
bands. -/
theorem exists_mem_alignmentCells_iff {v i j : Nat} (hv : 1 ≤ v ∧ v ≤ 40) :
    (∃ x, ((i, j), x) ∈ alignmentCells v) ↔
      (i ∈ band (laterCentres v) ∧ j ∈ band (laterCentres v)) ∨
        (natDist i 6 ≤ 2 ∧ j ∈ band (middleCentres v)) ∨ (i ∈ band (middleCentres v) ∧ natDist j 6 ≤ 2) := by
  have h7 : ∀ x, x + 7 = sideOf v ↔ x = sideOf v - 7 := fun x => by
    simp only [sideOf]
    omega
  simp only [mem_alignmentCells hv.2, mem_alignmentCentres, mem_band, middleCentres, laterCentres,
    Finset.mem_erase, List.mem_toFinset, h7]
  constructor
  · rintro ⟨x, r, c, ⟨⟨hr, hc⟩, hcorner⟩, ⟨hi, hj⟩, -⟩
    by_cases hr6 : r = 6
    · exact .inr (.inl ⟨hr6 ▸ hi, c, by tauto, hj⟩)
    by_cases hc6 : c = 6
    · exact .inr (.inr ⟨⟨r, by tauto, hi⟩, hc6 ▸ hj⟩)
    · exact .inl ⟨⟨r, ⟨hr6, hr⟩, hi⟩, c, ⟨hc6, hc⟩, hj⟩
  · rintro (⟨⟨r, ⟨hr6, hr⟩, hi⟩, c, ⟨hc6, hc⟩, hj⟩ | ⟨hi, c, ⟨hc7, hc6, hc⟩, hj⟩ |
      ⟨⟨r, ⟨hr7, hr6, hr⟩, hi⟩, hj⟩)
    · exact ⟨_, r, c, ⟨⟨hr, hc⟩, by tauto⟩, ⟨hi, hj⟩, rfl⟩
    · exact ⟨_, 6, c, ⟨⟨(alignPos_spec hv.2 c hc).1, hc⟩, by tauto⟩, ⟨hi, hj⟩, rfl⟩
    · exact ⟨_, r, 6, ⟨⟨hr, (alignPos_spec hv.2 r hr).1⟩, by tauto⟩, ⟨hi, hj⟩, rfl⟩

/-! ### The cells that MFUNC names (R103) -/

/-- MFUNC writes the cell. -/
abbrev Named (v i j : Nat) : Prop := ∃ x, ((i, j), x) ∈ functionWrites v

/-- The finders and their separators fill three corners of eight by eight cells. -/
theorem exists_mem_corners_iff {side i j : Nat} (hs : 21 ≤ side) (hi : i < side) (hj : j < side) :
    (∃ x, ((i, j), x) ∈ finderCells side ++ separatorCells side) ↔
      (i < 8 ∧ j < 8) ∨ (i < 8 ∧ side ≤ j + 8) ∨ (side ≤ i + 8 ∧ j < 8) := by
  have hc : ∀ x, side - 7 ≤ x ∧ x < side - 7 + 7 ↔ side ≤ x + 7 ∧ x < side := fun x => by omega
  simp only [finderCells, List.mem_append, mem_finderAt, mem_separatorCells hs, exists_or, exists_and_left,
    exists_eq, and_true, ← and_assoc (a := side - 7 ≤ i), hc]
  clear hc
  grind

theorem named_iff_regions {v i j : Nat} (hs : 21 ≤ sideOf v) : Named v i j ↔
    (∃ x, ((i, j), x) ∈ finderCells (sideOf v) ++ separatorCells (sideOf v)) ∨
      (∃ x, ((i, j), x) ∈ timingCells (sideOf v)) ∨ (∃ x, ((i, j), x) ∈ alignmentCells v) ∨
      (i + 8 = sideOf v ∧ j = 8) ∨ (i, j) ∈ reservedCells v := by
  have hdark : i + 8 = sideOf v ↔ i = sideOf v - 8 := by omega
  simp only [Named, functionWrites_eq, colouredWrites, darkModule, List.mem_append, List.mem_map,
    List.mem_singleton, Prod.mk.injEq, exists_or, ↓existsAndEq, and_true, true_and, hdark, or_assoc]

/-- The function cells are three corners, the timing lines, the version blocks and the alignment patterns. -/
theorem named_iff {v i j : Nat} (hs : 21 ≤ sideOf v) (hi : i < sideOf v) (hj : j < sideOf v) : Named v i j ↔
    (i < 9 ∧ j < 9) ∨ (i < 9 ∧ sideOf v ≤ j + 8) ∨ (sideOf v ≤ i + 8 ∧ j < 9) ∨ i = 6 ∨ j = 6 ∨
      (7 ≤ v ∧ (i < 6 ∧ sideOf v ≤ j + 11 ∨ sideOf v ≤ i + 11 ∧ j < 6)) ∨
      ∃ x, ((i, j), x) ∈ alignmentCells v := by
  rw [named_iff_regions hs, exists_mem_corners_iff hs hi hj, mem_reservedCells hs]
  simp only [mem_timingCells, exists_and_left, exists_eq, and_true]
  generalize (∃ x, ((i, j), x) ∈ alignmentCells v) = aligned
  grind

/-! ### The data region (R102) -/

/-- The data cells of the rows above the ninth, between the corners. -/
def topData (v : Nat) : Finset (Nat × Nat) :=
  ((Finset.range 9).erase 6 ×ˢ Finset.Ico 9 (sideOf v - 8)) \
    ((Finset.Ico 4 9).erase 6 ×ˢ band (middleCentres v) ∪
      if 7 ≤ v then Finset.range 6 ×ˢ Finset.Ico (sideOf v - 11) (sideOf v - 8) else ∅)

/-- The data cells from row and column 9 on. -/
def innerData (v : Nat) : Finset (Nat × Nat) :=
  (Finset.Ico 9 (sideOf v) ×ˢ Finset.Ico 9 (sideOf v)) \ (band (laterCentres v) ×ˢ band (laterCentres v))

/-- The data cells: above, left of and inside. -/
def dataRegion (v : Nat) : Finset (Nat × Nat) :=
  topData v ∪ (topData v).map (Equiv.prodComm _ _).toEmbedding ∪ innerData v

theorem mem_topData {v i j : Nat} (hs : 21 ≤ sideOf v) : (i, j) ∈ topData v ↔
    (i < 9 ∧ i ≠ 6 ∧ 9 ≤ j ∧ j + 8 < sideOf v) ∧ ¬ (4 ≤ i ∧ j ∈ band (middleCentres v)) ∧
      ¬ (7 ≤ v ∧ i < 6 ∧ sideOf v ≤ j + 11) := by
  have h8 : j < sideOf v - 8 ↔ j + 8 < sideOf v := by omega
  by_cases h7 : 7 ≤ v <;> simp [topData, h7, h8] <;> grind

theorem mem_leftData {v i j : Nat} :
    (i, j) ∈ (topData v).map (Equiv.prodComm _ _).toEmbedding ↔ (j, i) ∈ topData v := by
  simp

theorem mem_innerData {v i j : Nat} : (i, j) ∈ innerData v ↔ ((9 ≤ i ∧ i < sideOf v) ∧ 9 ≤ j ∧ j < sideOf v) ∧
    ¬ (i ∈ band (laterCentres v) ∧ j ∈ band (laterCentres v)) := by
  simp only [innerData, Finset.mem_sdiff, Finset.mem_product, Finset.mem_Ico]

/-- The data region is what the function patterns leave. -/
theorem mem_dataRegion {v i j : Nat} (hv : 1 ≤ v ∧ v ≤ 40) :
    (i, j) ∈ dataRegion v ↔ (i < sideOf v ∧ j < sideOf v) ∧ ¬ Named v i j := by
  have hs := (sideOf_bounds hv).1
  have hbi := band_bounds (x := i) hv
  have hbj := band_bounds (x := j) hv
  rw [and_congr_right fun h => not_congr (named_iff hs h.1 h.2), exists_mem_alignmentCells_iff hv, dataRegion,
    Finset.mem_union, Finset.mem_union, mem_leftData, mem_topData hs, mem_topData hs, mem_innerData,
    natDist_le_iff, natDist_le_iff]
  rcases lt_or_ge i 9 with hi | hi <;> rcases lt_or_ge j 9 with hj | hj <;> grind

/-! ### How many cells the region has -/

/-- Eight rows of S - 17 cells, without four rows of the middle bands and, for V ≥ 7, a version block. -/
def topCount (v : Nat) : Nat :=
  8 * (sideOf v - 17) - (20 * (middleCentres v).card + if 7 ≤ v then 18 else 0)

/-- A square of side S - 9 without the square of the later bands. -/
def innerCount (v : Nat) : Nat := (sideOf v - 9) ^ 2 - (5 * (laterCentres v).card) ^ 2

section Count

variable {v : Nat} (hv : 1 ≤ v ∧ v ≤ 40)
include hv

theorem card_topData : (topData v).card = topCount v := by
  have hs := (sideOf_bounds hv).1
  have hb := fun x => (band_bounds (x := x) hv).2
  have hdisj : Disjoint ((Finset.Ico 4 9).erase 6 ×ˢ band (middleCentres v))
      (if 7 ≤ v then Finset.range 6 ×ˢ Finset.Ico (sideOf v - 11) (sideOf v - 8) else ∅) := by
    refine Finset.disjoint_left.2 fun ⟨i, j⟩ h h' => ?_
    have hj := hb j (Finset.mem_product.1 h).2
    split at h' <;> simp at h'
    omega
  rw [topData, Finset.card_sdiff_of_subset, Finset.card_union_of_disjoint hdisj, Finset.card_product,
    Finset.card_product, card_band hv.2 (F := middleCentres v) (Finset.erase_subset _ _), topCount]
  · split <;> simp <;> omega
  · rintro ⟨i, j⟩ h
    have hj := hb j
    split at h <;> simp at h ⊢ <;> grind

theorem card_innerData : (innerData v).card = innerCount v := by
  have hsub : band (laterCentres v) ⊆ Finset.Ico 9 (sideOf v) := fun x hx =>
    Finset.mem_Ico.2 ((band_bounds hv).1 hx)
  rw [innerData, Finset.card_sdiff_of_subset (Finset.product_subset_product hsub hsub), Finset.card_product,
    Finset.card_product, card_band hv.2 subset_rfl, Nat.card_Ico, innerCount, sq, sq]

/-- The three parts do not meet, and the left one mirrors the top one. -/
theorem card_dataRegion : (dataRegion v).card = 2 * topCount v + innerCount v := by
  have hs := (sideOf_bounds hv).1
  have hleft : Disjoint (topData v) ((topData v).map (Equiv.prodComm _ _).toEmbedding) := by
    refine Finset.disjoint_left.2 fun ⟨i, j⟩ h h' => ?_
    rw [mem_leftData] at h'
    rw [mem_topData hs] at h h'
    omega
  have hinner : Disjoint (topData v ∪ (topData v).map (Equiv.prodComm _ _).toEmbedding) (innerData v) := by
    refine Finset.disjoint_left.2 fun ⟨i, j⟩ h h' => ?_
    rw [Finset.mem_union, mem_leftData, mem_topData hs, mem_topData hs] at h
    rw [mem_innerData] at h'
    omega
  rw [dataRegion, Finset.card_union_of_disjoint hinner, Finset.card_union_of_disjoint hleft, Finset.card_map,
    card_topData hv, card_innerData hv, ← two_mul]

end Count

/-- The region holds the codewords and remainder bits of every level (R41, R102). -/
theorem dataCount_eq_table {v l : Nat} (hv : 1 ≤ v ∧ v ≤ 40) (hl : l < 4) :
    2 * topCount v + innerCount v = 8 * (blockRow v l).ntotal + (blockRow v l).remBits := by
  have h : ∀ v < 41, 1 ≤ v → ∀ l < 4,
      2 * topCount v + innerCount v = 8 * (blockRow v l).ntotal + (blockRow v l).remBits := by decide +kernel
  exact h v (by omega) hv.1 l hl

/-! ### Counting cells of a matrix -/

theorem countP_range (n : Nat) (p : Nat → Bool) :
    (List.range n).countP p = ((Finset.range n).filter fun i => p i).card := by
  rw [Finset.card_def, Finset.filter_val, ← Multiset.countP_eq_card_filter]
  simp [Multiset.range]

theorem take_eq_map_getD {α : Type} (l : List α) (d : α) {n : Nat} (h : n ≤ l.length) :
    l.take n = (List.range n).map fun i => l.getD i d := by
  refine List.ext_getElem (by simp [h]) fun i h1 _ => ?_
  obtain ⟨-, hi⟩ : i < n ∧ i < l.length := by simpa using h1
  simp [hi]

/-- Counting row by row inside S × S counts positions. -/
theorem sum_countP_take {m : Mat} (h : Mat.Wf m) {side : Nat} (hs : side ≤ maxSide) (p : MCell → Bool) :
    ((m.take side).map fun row => (row.take side).countP p).sum =
      ((Finset.range side ×ˢ Finset.range side).filter fun q => p (Mat.cell m q.1 q.2)).card := by
  obtain ⟨hrows, hcols⟩ := h
  have hrow : ∀ i < side, ((m.getD i []).take side).countP p =
      ((Finset.range side).filter fun j => p (Mat.cell m i j)).card := by
    intro i hi
    have hi' : i < m.length := by omega
    have hl : (m.getD i []).length = maxSide := by
      rw [List.getD_eq_getElem _ _ hi']
      exact hcols _ (List.getElem_mem hi')
    rw [take_eq_map_getD _ MCell.unset (by omega), List.countP_map, countP_range]
    rfl
  rw [take_eq_map_getD m [] (by omega), List.map_map, Finset.card_filter, Finset.sum_product]
  simp only [← Finset.card_filter]
  rw [← Finset.sum_congr rfl fun i hi => hrow i (Finset.mem_range.1 hi)]
  rfl

/-- In a cleared matrix MFUNC makes the cells that it names function cells, and no other. -/
theorem func_functionWrites {m : Mat} (h : Mat.Wf m) (hu : ∀ r c, Mat.cell m r c = MCell.unset) {v r c : Nat}
    (hv : 1 ≤ v ∧ v ≤ 40) :
    (Mat.cell (Mat.setAll m (functionWrites v)) r c).func = true ↔ Named v r c := by
  by_cases hn : Named v r c
  · obtain ⟨x, hx⟩ := hn
    rw [cell_functionWrites h hv hx]
    exact iff_of_true (functionWrites_func _ hx) ⟨x, hx⟩
  · rw [cell_functionWrites_other h (not_exists.1 hn), hu]
    exact iff_of_false Bool.false_ne_true hn

/-- Settles O29: the cells that MFUNC leaves are the data region, which has the table's size. -/
theorem dataCellCount : Obligations.DataCellCount := by
  intro v l h1 h2 hl
  have hv : 1 ≤ v ∧ v ≤ 40 := ⟨h1, h2⟩
  have hwf : Mat.Wf clearedMat := replicate_wf _
  have hregion : ((Finset.range (sideOf v) ×ˢ Finset.range (sideOf v)).filter fun q =>
      !(Mat.cell (Mat.setAll clearedMat (functionWrites v)) q.1 q.2).func) = dataRegion v := by
    ext ⟨i, j⟩
    rw [mem_dataRegion hv, ← func_functionWrites hwf cell_replicate_unset hv]
    simp
  rw [sum_countP_take (Mat.setAll_wf hwf _) (sideOf_bounds hv).2, hregion, card_dataRegion hv,
    dataCount_eq_table hv hl]

end Sys2Proof.Machine
end

section
/-! SUPPORT. The commands that score and apply masks: the selected mask, the cells of format and version
information, and what MSCORE, MEVAL, MAPPLY and MAPSEL do: O33, O34, O36, O37 and O53 (spec
43_mask_evaluation.md R111 to R113, R121 to R125). -/

namespace Sys2Proof.Machine

/-! ### The matrix after the mask is applied (R124) -/

/-- Settles O53: at stage 4 the commands that place or mask fail their stage check. -/
theorem finalMatrixImmutable : Obligations.FinalMatrixImmutable := by
  intro i s t hs hminit hencode ht
  obtain ⟨hr, rfl⟩ | ⟨-, e, rfl⟩ := exec_cases ht
  · rw [complete_mat]
    have hne : ∀ n : BitVec 3, n ≠ 4 → s.status.mstage ≠ n := fun n hn h => hn (h.symm.trans hs)
    cases i with
    | nop | gfadd | gfmul | gfexp | gflog | rsgen | rsenc | eccode | mscore | meval => rfl
    | mfunc => exact absurd hr.2 (hne 1 (by decide))
    | mdata => exact absurd hr.2.1 (hne 2 (by decide))
    | mapply m => exact absurd hr.2 (hne 3 (by decide))
    | mapsel => exact absurd hr.2.1 (hne 3 (by decide))
    | minit => exact absurd rfl hminit
    | encode => exact absurd rfl hencode
  · exact errorComplete_mat s _ e

/-! ### MSCORE and MAPSEL (R122, R125) -/

theorem encode_mscore (m : BitVec 3) : encode (.mscore m) = BitVec.ofNat 32 (0x40 + 256 * m.toNat) :=
  (Instr.mscore m).fieldsOfWord.2.trans (cmdWord_eq _)

theorem encode_mapply (m : BitVec 3) : encode (.mapply m) = BitVec.ofNat 32 (0x42 + 256 * m.toNat) :=
  (Instr.mapply m).fieldsOfWord.2.trans (cmdWord_eq _)

/-- Settles O33: MSCORE writes the scores of its mask. -/
theorem mscoreResult : Obligations.MscoreResult := by
  refine ⟨raisesBadOp_of_rowOfOp rfl (by decide) (by decide), fun m s =>
    ⟨encode_mscore m, fun hv => if_pos ((cfgIllegal_eq_true s).2 hv), fun hv hs => ?_, fun hv hs p hp => ?_⟩⟩
  · exact second_check_fails ((cfgIllegal_eq_false s).2 hv) (mt (seqPlaced_eq_false s).1 hs)
  · subst hp
    exact exec_of_runs (i := .mscore m) ⟨hv, hs⟩

/-- The completions of two commands differ in LASTOP (R128). -/
theorem complete_with_lastop (s : State) (op op' : BitVec 8) :
    { s.complete op with status := { (s.complete op).status with lastop := op' } } = s.complete op' := rfl

/-- Settles O37: both commands have the body of MAPPLY, and differ in their completion. -/
theorem mapselAppliesSelected : Obligations.MapselAppliesSelected := by
  refine ⟨rfl, raisesBadOp_of_rowOfOp rfl (by decide) (by decide), fun s =>
    ⟨fun hv => if_pos ((cfgIllegal_eq_true s).2 hv), fun hv hs => ?_, fun hv hs hsel => ?_⟩⟩
  · refine second_check_fails ((cfgIllegal_eq_false s).2 hv) ?_
    rw [seqMapsel_eq_false, not_and_or, Bool.not_eq_true]
    exact hs
  · refine ⟨(s.mapplyBody s.maskSel.sel).complete 0x42, exec_of_runs (i := .mapply _) ⟨hv, hs⟩, ?_⟩
    rw [complete_with_lastop]
    exact exec_of_runs (i := .mapsel) ⟨hv, hs, hsel⟩

/-! ### The selected mask (R121) -/

/-- `firstMin` gives a pair of the list with the least second component, and of those the first: with the
first components rising, the one with the smallest first component. -/
theorem firstMin_spec {best : BitVec 3 × Nat} {xs : List (BitVec 3 × Nat)}
    (hp : (best :: xs).Pairwise fun x y => x.1 < y.1) : firstMin best xs ∈ best :: xs ∧
      ∀ y ∈ best :: xs, (firstMin best xs).2 ≤ y.2 ∧ (y.1 < (firstMin best xs).1 → (firstMin best xs).2 < y.2) := by
  induction xs generalizing best with
  | nil => simp [firstMin]
  | cons x xs ih =>
    obtain ⟨hbest, hx⟩ := List.pairwise_cons.1 hp
    rw [firstMin]
    split
    next hlt =>
      obtain ⟨hmem, hmin⟩ := ih hx
      have hle := (hmin x List.mem_cons_self).1
      refine ⟨List.mem_cons_of_mem _ hmem, List.forall_mem_cons.2 ⟨⟨by omega, fun _ => by omega⟩, hmin⟩⟩
    next hge =>
      obtain ⟨hmem, hmin⟩ := ih (hp.sublist (.cons_cons _ (List.sublist_cons_self x xs)))
      obtain ⟨hle, hlt⟩ := hmin best List.mem_cons_self
      have hbx := hbest x List.mem_cons_self
      obtain ⟨hminBest, hminXs⟩ := List.forall_mem_cons.1 hmin
      have hsub : best :: xs ⊆ best :: x :: xs := List.cons_subset_cons _ (List.subset_cons_self x xs)
      refine ⟨hsub hmem, List.forall_mem_cons.2 ⟨hminBest,
        List.forall_mem_cons.2 ⟨⟨by omega, fun hxr => ?_⟩, hminXs⟩⟩⟩
      have := hlt (BitVec.lt_trans hbx hxr)
      omega

/-- SEL is the smallest mask with the least total. -/
theorem selectMask_spec (total : BitVec 3 → Nat) (m : BitVec 3) : total (selectMask total) ≤ total m ∧
    (m.toNat < (selectMask total).toNat → total (selectMask total) < total m) := by
  have hpairs : (0, total 0) :: [1, 2, 3, 4, 5, 6, 7].map (fun m => (m, total m)) =
      allMasks.map fun m => (m, total m) := rfl
  have hsorted : (allMasks.map fun m => (m, total m)).Pairwise fun x y => x.1 < y.1 :=
    List.pairwise_map.2 (show allMasks.Pairwise (· < ·) by decide)
  have hall : ∀ m : BitVec 3, m ∈ allMasks := by decide
  rw [← hpairs] at hsorted
  obtain ⟨hmem, hmin⟩ := firstMin_spec hsorted
  rw [hpairs] at hmem hmin
  obtain ⟨k, -, hk⟩ := List.mem_map.1 hmem
  rw [selectMask, ← hk]
  rw [← hk] at hmin
  exact hmin _ (List.mem_map_of_mem (hall m))

/-- Settles O34: MEVAL holds the scores of every mask and of the selected one. -/
theorem mevalResult : Obligations.MevalResult := by
  refine ⟨rfl, raisesBadOp_of_rowOfOp rfl (by decide) (by decide), fun s =>
    ⟨fun hv => if_pos ((cfgIllegal_eq_true s).2 hv), fun hv hs => ?_, fun hv hs => ?_⟩⟩
  · exact second_check_fails ((cfgIllegal_eq_false s).2 hv) (mt (seqPlaced_eq_false s).1 hs)
  · refine ⟨_, exec_of_runs (i := .meval) ⟨hv, hs⟩, rfl, fun m => ⟨?_, ?_⟩⟩
    · exact Vector.getElem_ofFn m.isLt
    · exact selectMask_spec (fun m => (s.penaltyOf m).total) m

/-! ### Format and version information in the matrix (R111, R112) -/

theorem nodup_formatCells {side : Nat} (hs : 21 ≤ side) : (fc1 ++ fc2 side).Nodup := by
  have hfc2 : (fc2 side).Nodup := by
    rw [fc2_eq]
    refine .append (.map_on (fun x hx y hy h => ?_) List.nodup_range)
      (.map_on (fun x hx y hy h => ?_) List.nodup_range) fun ⟨i, j⟩ h1 h2 => ?_ <;>
      simp only [List.mem_map, List.mem_range, Prod.mk.injEq] at * <;> omega
  refine .append (by decide) hfc2 fun ⟨i, j⟩ h1 h2 => ?_
  rw [mem_fc1] at h1
  rw [mem_fc2 hs] at h2
  omega

theorem nodup_versionCells {side : Nat} (hs : 21 ≤ side) : (vc1 side ++ vc2 side).Nodup := by
  refine .append (.map_on (fun x _ y _ h => ?_) List.nodup_range)
    (.map_on (fun x _ y _ h => ?_) List.nodup_range) fun ⟨i, j⟩ h1 h2 => ?_
  · simp only [Prod.mk.injEq] at h
    omega
  · simp only [Prod.mk.injEq] at h
    omega
  · rw [mem_vc1 hs] at h1
    rw [mem_vc2 hs] at h2
    omega

/-- No cell is reserved twice. -/
theorem nodup_reservedCells {v : Nat} (hs : 21 ≤ sideOf v) : (reservedCells v).Nodup := by
  rw [reservedCells]
  split
  next hv =>
    refine .append (nodup_formatCells hs) (nodup_versionCells hs) fun ⟨i, j⟩ h1 h2 => ?_
    rw [List.mem_append, mem_fc1, mem_fc2 hs] at h1
    rw [List.mem_append, mem_vc1 hs, mem_vc2 hs] at h2
    simp only [sideOf] at *
    omega
  next => simpa using nodup_formatCells hs

theorem mem_infoWrites {cells : List (Nat × Nat)} {bit : Nat → Bool} {k : Nat} {p : Nat × Nat}
    (hp : cells[k]? = some p) : (p, MCell.function (bit k)) ∈ infoWrites cells bit :=
  List.mem_map.2 ⟨(p, k), List.mem_zipIdx_iff_getElem?.2 hp, rfl⟩

section Information

variable {mat : Mat} (h : Mat.Wf mat) {v : Nat} (hv : 1 ≤ v ∧ v ≤ 40) (l : BitVec 2) (m : BitVec 3)

include h hv

/-- No reserved cell is written twice, so each write of information stands. -/
theorem cell_candidate_of_infoWrite {p : Nat × Nat} {x : MCell} (hw : (p, x) ∈ infoCells v l m) :
    Mat.cell (candidate mat v l m) p.1 p.2 = x := by
  obtain ⟨hlo, hhi⟩ := sideOf_bounds hv
  have hfst := map_fst_infoCells v l m
  obtain ⟨hr, hc⟩ := reservedCells_inside hv p (hfst ▸ List.mem_map_of_mem hw)
  have hn : ((infoCells v l m).map Prod.fst).Nodup := hfst ▸ nodup_reservedCells hlo
  refine Mat.cell_setAll_of_mem (Mat.mapSquare_wf h _ _) _ p.1 p.2 x (hr.trans_le hhi) (hc.trans_le hhi) hw
    fun w hw' he => ?_
  exact congrArg Prod.snd (List.inj_on_of_nodup_map hn hw' hw he)

/-- Both copies of the format cells hold the format information (R111). -/
theorem cell_candidate_format {k : Nat} {p : Nat × Nat} (hp : fc1[k]? = some p ∨ (fc2 (sideOf v))[k]? = some p) :
    Mat.cell (candidate mat v l m) p.1 p.2 = MCell.function ((fmtbits l m).getLsbD k) := by
  refine cell_candidate_of_infoWrite h hv l m (List.mem_append_left _ (List.mem_append.2 ?_))
  exact hp.imp mem_infoWrites mem_infoWrites

/-- Both copies of the version cells hold the version information (R112). -/
theorem cell_candidate_version (h7 : v ≥ 7) {k : Nat} {p : Nat × Nat}
    (hp : (vc1 (sideOf v))[k]? = some p ∨ (vc2 (sideOf v))[k]? = some p) :
    Mat.cell (candidate mat v l m) p.1 p.2 = MCell.function ((verbits v).getLsbD k) := by
  refine cell_candidate_of_infoWrite h hv l m (List.mem_append_right _ ?_)
  rw [verWrites, if_pos h7]
  exact List.mem_append.2 (hp.imp mem_infoWrites mem_infoWrites)

end Information

/-- What masking does inside the symbol, cell by cell (R108). -/
theorem maskCell_eq (m : BitVec 3) (i j : Nat) (x : MCell) : maskCell m i j x =
    if x.func = false ∧ maskBit m i j = true then { x with dark := !x.dark } else x := by
  obtain ⟨set, dark, func⟩ := x
  cases func <;> cases h : maskBit m i j <;> simp [maskCell, h]

theorem mapplyBody_eq (s : State) (m : BitVec 3) : s.mapplyBody m =
    { s with
      mat := (s.mapplyBody m).mat
      maskSel := { s.maskSel with applied := m }
      fmtBits := fmtbits s.cfg.level m
      verBits := if s.opV ≥ 7 then verbits s.opV else 0
      status := { s.status with mstage := 4 } } := by
  rw [State.mapplyBody]
  generalize candidate s.mat s.opV s.cfg.level m = mat
  rfl

/-- Settles O36: the information is in the reserved cells, and every other cell is masked. -/
theorem mapplyResult : Obligations.MapplyResult := by
  refine ⟨raisesBadOp_of_rowOfOp rfl (by decide) (by decide), fun m s =>
    ⟨encode_mapply m, fun hv => if_pos ((cfgIllegal_eq_true s).2 hv), fun hv hs => ?_, fun hv hs hm => ?_⟩⟩
  · exact second_check_fails ((cfgIllegal_eq_false s).2 hv) (mt (seqPlaced_eq_false s).1 hs)
  · have hother := fun {r c} => cell_candidate_other (v := s.opV) (r := r) (c := c) hm s.cfg.level m
    have hside := (sideOf_bounds hv).2
    refine ⟨(s.mapplyBody m).complete 0x42, exec_of_runs (i := .mapply m) ⟨hv, hs⟩, ?_⟩
    rw [complete_mat]
    refine ⟨congrArg (State.complete · 0x42) (mapplyBody_eq s m), ?_⟩
    rw [mapplyBody_mat]
    refine ⟨fun k p hp => cell_candidate_format hm hv _ m hp,
      fun h7 k p hp => cell_candidate_version hm hv _ m h7 hp, fun r c hn => ?_, fun hstage r c hr hc => ?_,
      fun i u hminit hencode hu => ?_⟩
    · rw [hother hn, maskCell_eq, ← ite_and]
      refine if_congr ⟨fun ⟨⟨hr, hc, _⟩, hmask⟩ => ⟨hr, hc, hmask⟩, fun ⟨hr, hc, hmask⟩ => ?_⟩ rfl rfl
      exact ⟨⟨hr, hc, hr.trans_le hside, hc.trans_le hside⟩, hmask⟩
    · by_cases hn : (r, c) ∈ reservedCells s.opV
      · obtain ⟨d, hd⟩ := cell_candidate_reserved hm hv s.cfg.level m hn
        rw [hd]
        rfl
      · rw [hother hn, apply_ite MCell.set, maskCell_set, ite_self]
        exact ((matrixAsStage_three hs).1 hstage).2 r c hr hc hn
    · rw [finalMatrixImmutable i _ u rfl hminit hencode hu, complete_mat, mapplyBody_mat]

end Sys2Proof.Machine
end

section
/-! SUPPORT. The four penalty rules in the spec's own form and their bounds: O35 (spec 43_mask_evaluation.md
R114 to R120). -/

namespace Sys2Proof.Machine

/-- A sum along a list of lines is the sum over their numbers. -/
theorem sum_map_range {n : Nat} (f : Nat → Nat) : ((List.range n).map f).sum = ∑ k ∈ Finset.range n, f k := rfl

/-! ### The lines of the colour grid (R114) -/

/-- The colour grid of a matrix: its DARK bits (R114). -/
def darkGrid (mat : Mat) (i j : Nat) : Bool := (Mat.cell mat i j).dark

@[simp] theorem length_lineOf (g : Nat → Nat → Bool) (side k : Nat) : (lineOf g side k).length = side := by
  simp [lineOf]

section Grid

variable {mat : Mat} (h : Mat.Wf mat) {side : Nat} (hs : side ≤ maxSide)

include h hs

/-- The rows of the colour grid, cell by cell. -/
theorem colourRows_eq : colourRows mat side =
    (List.range side).map fun i => (List.range side).map (darkGrid mat i) := by
  obtain ⟨hrows, hcols⟩ := h
  rw [colourRows, take_eq_map_getD mat [] (by omega), List.map_map]
  refine List.map_congr_left fun i hi => ?_
  have hi' : i < mat.length := by have := List.mem_range.1 hi; omega
  have hl : (mat.getD i []).length = maxSide := by
    rw [List.getD_eq_getElem _ _ hi']
    exact hcols _ (List.getElem_mem hi')
  rw [Function.comp_apply, take_eq_map_getD _ MCell.unset (by omega), List.map_map]
  rfl

/-- The lines that are scored are the 2S lines of R114. -/
theorem gridLines_eq : gridLines side (colourRows mat side) =
    (List.range (2 * side)).map (lineOf (darkGrid mat) side) := by
  have hrows := colourRows_eq h hs
  have hlen : ∀ row ∈ colourRows mat side, row.length = side := by simp [hrows]
  rw [gridLines, gridColumns_eq side _ hlen, hrows, two_mul, List.range_add, List.map_append, List.map_map]
  congr 1 <;> exact List.map_congr_left fun i hi => by simp [lineOf, List.mem_range.1 hi]

end Grid

/-! ### Rule 1: runs (R115) -/

theorem runScore_le (n : Nat) : runScore n ≤ n - 2 := by
  rw [runScore, penN1]
  split <;> omega

theorem sum_runScore_runsFrom_le (b : Bool) (n : Nat) (xs : List Bool) :
    ((runsFrom b n xs).map runScore).sum ≤ n + xs.length - 2 := by
  induction xs generalizing b n with
  | nil => simpa [runsFrom] using runScore_le n
  | cons x xs ih =>
    rw [runsFrom]
    split
    · have := ih b (n + 1)
      rw [List.length_cons]
      omega
    · have := ih x 1
      have := runScore_le n
      rw [List.map_cons, List.sum_cons, List.length_cons]
      omega

/-- A line of n cells scores at most n - 2: every run loses at least two of its cells. -/
theorem sum_runScore_le (line : List Bool) : ((runLengths line).map runScore).sum ≤ line.length - 2 := by
  cases line with
  | nil => rfl
  | cons x xs =>
    rw [List.length_cons, Nat.add_comm]
    exact sum_runScore_runsFrom_le x 1 xs

/-- P1 by the maximal runs of each line. -/
theorem penalty1_eq (n : Nat) (line : Nat → List Bool) : ∃ runs : Nat → List (Bool × Nat),
    (∀ k, IsRuns (runs k) (line k)) ∧ penalty1 ((List.range n).map line) =
      ∑ k ∈ Finset.range n, ((runs k).map fun q => if 5 ≤ q.2 then 3 + (q.2 - 5) else 0).sum := by
  choose runs hruns hlen using fun k => exists_runs (line k)
  refine ⟨runs, hruns, ?_⟩
  rw [penalty1, List.map_map, sum_map_range]
  refine Finset.sum_congr rfl fun k _ => ?_
  rw [Function.comp_apply, ← hlen, List.map_map]
  rfl

theorem penalty1_le {n side : Nat} {line : Nat → List Bool} (hl : ∀ k, (line k).length = side) :
    penalty1 ((List.range n).map line) ≤ n * (side - 2) := by
  rw [penalty1, List.map_map, sum_map_range]
  refine (Finset.sum_le_card_nsmul _ _ (side - 2) fun k _ => ?_).trans_eq (by simp)
  exact (hl k) ▸ sum_runScore_le (line k)

/-! ### Rule 2: blocks (R116) -/

/-- The blocks of a grid are those of each two adjacent rows. -/
theorem blocksInGrid_eq (rows : List (List Bool)) : blocksInGrid rows =
    ∑ i ∈ Finset.range (rows.length - 1), blocksInRows (rows.getD i []) (rows.getD (i + 1) []) := by
  induction rows with
  | nil => rfl
  | cons r rows ih =>
    cases rows with
    | nil => rfl
    | cons r' rows =>
      rw [blocksInGrid, ih, List.length_cons, Nat.add_sub_cancel, List.length_cons, Nat.add_sub_cancel,
        List.length_cons, Finset.sum_range_succ', Nat.add_comm]
      rfl

/-- A 2 × 2 block of one colour with its upper left cell at (i, j). -/
abbrev BlockAt (g : Nat → Nat → Bool) (i j : Nat) : Prop :=
  g i j = g i (j + 1) ∧ g i j = g (i + 1) j ∧ g i j = g (i + 1) (j + 1)

theorem blocksInRows_range (g : Nat → Nat → Bool) (i side : Nat) :
    blocksInRows ((List.range side).map (g i)) ((List.range side).map (g (i + 1))) =
      ((Finset.range (side - 1)).filter fun j => BlockAt g i j).card := by
  rw [blocksInRows_eq _ _ (by simp), List.length_map, List.length_range, countP_range]
  congr 1
  refine Finset.filter_congr fun j hj => ?_
  have hj' : j < side ∧ j + 1 < side := by have := Finset.mem_range.1 hj; omega
  simp [hj']

/-- P2 by positions. -/
theorem penalty2_eq (g : Nat → Nat → Bool) (side : Nat) :
    penalty2 ((List.range side).map fun i => (List.range side).map (g i)) =
      3 * ((Finset.range (side - 1) ×ˢ Finset.range (side - 1)).filter fun q => BlockAt g q.1 q.2).card := by
  rw [penalty2, penN2, blocksInGrid_eq, List.length_map, List.length_range, Finset.card_filter,
    Finset.sum_product]
  congr 1
  refine Finset.sum_congr rfl fun i hi => ?_
  have hi' : i < side ∧ i + 1 < side := by have := Finset.mem_range.1 hi; omega
  rw [← Finset.card_filter, ← blocksInRows_range]
  simp [hi']

/-! ### Rule 3: finder-like patterns (R117) -/

theorem take_drop_eq_finderLike_iff (cells : List Bool) (x : Nat) : (cells.drop x).take 7 = finderLike ↔
    ∀ e < 7, cells[x + e]? = some (e != 1 && e != 5) := by
  have hpattern : ∀ e < 7, finderLike[e]? = some (e != 1 && e != 5) := by decide
  rw [List.ext_getElem?_iff]
  refine forall_congr' fun e => ?_
  rw [List.getElem?_take]
  by_cases he : e < 7
  · simp [he, hpattern e he]
  · simp [he, finderLike]

/-- Light cells from a to b, as far as the cells goes. -/
theorem all_light_iff (cells : List Bool) (a b : Nat) : ((cells.take b).drop a).all (! ·) = true ↔
    ∀ k < cells.length, a ≤ k → k < b → cells[k]? = some false := by
  rw [List.all_eq_true]
  constructor
  · intro h k hk ha hb
    have hmem : cells[k] ∈ (cells.take b).drop a := by
      refine List.mem_of_getElem? (i := k - a) ?_
      rw [List.getElem?_drop, Nat.add_sub_cancel' ha, List.getElem?_take_of_lt hb, List.getElem?_eq_getElem hk]
    rw [List.getElem?_eq_getElem hk]
    simpa using h _ hmem
  · intro h y hy
    obtain ⟨i, hi⟩ := List.mem_iff_getElem?.1 hy
    rw [List.getElem?_drop, List.getElem?_take] at hi
    split at hi
    next hb =>
      obtain ⟨hlt, -⟩ := List.getElem?_eq_some_iff.1 hi
      rw [← Option.some.inj ((h (a + i) hlt (Nat.le_add_right a i) hb).symm.trans hi)]
      rfl
    next => cases hi

theorem finderLikeHere_iff (cells : List Bool) (x : Nat) :
    finderLikeHere (cells.take x).reverse (cells.drop x) = true ↔ FinderLikeAt cells x := by
  rw [finderLikeHere, Bool.and_eq_true, beq_iff_eq, take_drop_eq_finderLike_iff, Bool.or_eq_true]
  refine and_congr_right fun hpattern => or_congr ?_ ?_
  · obtain ⟨hlen, -⟩ := List.getElem?_eq_some_iff.1 (hpattern 0 (by decide))
    have hx : (cells.take x).length = x := List.length_take_of_le (by omega)
    rw [List.take_reverse, List.all_reverse, hx, all_light_iff]
    exact ⟨fun h k hk hk' => h k (by omega) (by omega) hk, fun h k _ hk' hk => h k hk (by omega)⟩
  · rw [List.drop_drop, List.take_drop, all_light_iff]

/-- An occurrence needs seven cells from its start on. -/
theorem FinderLikeAt.add_seven_le {cells : List Bool} {x : Nat} (h : FinderLikeAt cells x) :
    x + 7 ≤ cells.length := by
  obtain ⟨hlt, -⟩ := List.getElem?_eq_some_iff.1 (h.1 6 (by decide))
  omega

theorem finderLikeFrom_nil {cells : List Bool} {side : Nat} (hl : cells.length = side) :
    finderLikeFrom [] cells = ((Finset.range (side - 6)).filter fun x => FinderLikeAt cells x).card := by
  rw [finderLikeFrom_eq, countP_range]
  congr 1
  ext x
  simp only [List.append_nil, Finset.mem_filter, Finset.mem_range, finderLikeHere_iff]
  refine and_congr_left fun h => ?_
  have := h.add_seven_le
  omega

/-- P3 by lines and positions. -/
theorem penalty3_eq {n side : Nat} {line : Nat → List Bool} (hl : ∀ k, (line k).length = side) :
    penalty3 ((List.range n).map line) =
      40 * ((Finset.range n ×ˢ Finset.range (side - 6)).filter fun q => FinderLikeAt (line q.1) q.2).card := by
  rw [penalty3, penN3, List.map_map, sum_map_range, Finset.card_filter, Finset.sum_product]
  congr 1
  refine Finset.sum_congr rfl fun k _ => ?_
  rw [← Finset.card_filter, Function.comp_apply, finderLikeFrom_nil (hl k)]

/-! ### Rule 4: balance (R118) -/

/-- P4 by the number of dark cells. -/
theorem penalty4_eq {mat : Mat} (h : Mat.Wf mat) {side : Nat} (hs : side ≤ maxSide) :
    penalty4 side (colourRows mat side) =
      10 * ((2 * (((Finset.range side ×ˢ Finset.range side).filter fun q : Nat × Nat =>
        darkGrid mat q.1 q.2 = true).card : Int) - side ^ 2).natAbs * 10 / side ^ 2) := by
  have hcount : darkCount (colourRows mat side) =
      ((Finset.range side ×ˢ Finset.range side).filter fun q => darkGrid mat q.1 q.2 = true).card := by
    refine Eq.trans ?_ (sum_countP_take h hs MCell.dark)
    rw [darkCount, colourRows, List.map_map]
    simp only [Function.comp_def, List.count_eq_countP, List.countP_map, beq_true]
  rw [penalty4, penN4, hcount, ← pow_two]
  have hdist : ∀ D T : Nat, natDist (2 * D) T = (2 * (D : Int) - T).natAbs := fun D T => by
    rw [natDist]
    omega
  rw [hdist]
  push_cast
  rfl

theorem card_filter_product_le (m n : Nat) (P : Nat × Nat → Prop) [DecidablePred P] :
    ((Finset.range m ×ˢ Finset.range n).filter P).card ≤ m * n :=
  (Finset.card_filter_le _ _).trans_eq (by rw [Finset.card_product, Finset.card_range, Finset.card_range])

/-- The dark cells differ from half of the symbol by half of it at most. -/
theorem penalty4_form_le {D side : Nat} (hD : D ≤ side ^ 2) :
    10 * ((2 * (D : Int) - side ^ 2).natAbs * 10 / side ^ 2) ≤ 100 := by
  rw [← Nat.cast_pow]
  have hdist : (2 * (D : Int) - (side ^ 2 : Nat)).natAbs ≤ side ^ 2 := by omega
  exact Nat.mul_le_mul_left 10 (Nat.div_le_of_le_mul (Nat.mul_le_mul_right 10 hdist))

/-! ### The scores of a candidate (R120) -/

/-- The bounds at the largest symbol. -/
theorem penalty_bounds_of_side_le {side : Nat} (hs : side ≤ 177) : 2 * side * (side - 2) ≤ 61950 ∧
    3 * (side - 1) ^ 2 ≤ 92928 ∧ 40 * (2 * side * (side - 6)) ≤ 2421360 := by
  have h1 : 2 * side * (side - 2) ≤ 2 * 177 * (177 - 2) := by gcongr
  have h2 : 3 * (side - 1) ^ 2 ≤ 3 * (177 - 1) ^ 2 := by gcongr
  have h3 : 40 * (2 * side * (side - 6)) ≤ 40 * (2 * 177 * (177 - 6)) := by gcongr
  exact ⟨h1, h2, h3⟩

/-- Settles O35: the lists the scores are computed from are the rows and lines of the colour grid. -/
theorem penaltyBounds : Obligations.PenaltyBounds := by
  intro mat v l m hm hlo hhi g hg p hp
  have hs : sideOf v ≤ 177 := (sideOf_bounds ⟨hlo, hhi⟩).2
  have hwf : Mat.Wf (candidate mat v l m) := Mat.setAll_wf (Mat.mapSquare_wf hm _ _) _
  obtain rfl : g = darkGrid (candidate mat v l m) := funext₂ hg
  rw [maskPenalty, gridPenalty, gridLines_eq hwf hs] at hp
  have h2 := penalty2_eq (darkGrid (candidate mat v l m)) (sideOf v)
  have h3 := penalty3_eq (n := 2 * sideOf v) (length_lineOf (darkGrid (candidate mat v l m)) (sideOf v))
  have h4 := penalty4_eq hwf hs
  rw [← colourRows_eq hwf hs] at h2
  generalize darkGrid (candidate mat v l m) = g at *
  generalize sideOf v = side at *
  obtain ⟨runs, hruns, h1⟩ := penalty1_eq (2 * side) (lineOf g side)
  have hle1 := penalty1_le (n := 2 * side) (length_lineOf g side)
  obtain ⟨hmax1, hmax2, hmax3⟩ := penalty_bounds_of_side_le hs
  have hle2 := h2.trans_le (Nat.mul_le_mul_left 3 ((card_filter_product_le _ _ _).trans_eq (pow_two _).symm))
  have hle3 := h3.trans_le (Nat.mul_le_mul_left 40 (card_filter_product_le _ _ _))
  have hle4 := h4.trans_le (penalty4_form_le ((card_filter_product_le _ _ _).trans_eq (pow_two _).symm))
  subst hp
  have htotal := add_le_add (add_le_add (add_le_add (hle1.trans hmax1) (hle2.trans hmax2)) (hle3.trans hmax3)) hle4
  exact ⟨⟨runs, fun k _ => hruns k, h1⟩, h2, h3, h4, rfl, hle1, hle1.trans hmax1, hle2, hle2.trans hmax2, hle3,
    hle3.trans hmax3, hle4, htotal, Nat.mod_eq_of_lt (htotal.trans_lt (by decide))⟩

end Sys2Proof.Machine
end

section
/-! SUPPORT. Sequencing: the word issued, the core's turn and the turns before it, completion, NOP, and
ENCODE against its six commands and against the geometry: O5, O9, O10, O13, O38 to O40 and O46 (spec
44_sequencing.md R126 to R132). -/

namespace Sys2Proof.Machine

/-! ### Issue, execution and completion (R126 to R129, R136) -/

/-- Settles O46: CMD takes writes, and is locked while BUSY = 1. -/
theorem issueCommand : Obligations.IssueCommand := by
  refine fun s w => ⟨fun hb => ?_, fun hb => ⟨0, hostWrite_of_error w (writeError_locked (by decide) hb)⟩⟩
  rw [hostWrite_of_loc (.reg .cmd) w rfl (by decide) (by decide) rfl (.inl hb)]
  exact ⟨⟨0, rfl⟩, rfl⟩

/-- A pending word that decodes to a command is executed (R127). -/
theorem coreStep_of_decode_ok {s : State} {w : Word} {i : Instr} (hp : s.pendcmd = some w)
    (hd : decode w = .ok i) : coreStep s = exec i s := by
  simp only [coreStep, State.fetch, hp, hd]

/-- Settles O5: either turn is the core's, and PENDCMD decodes to the command. -/
theorem stepRunsDecodedCommand : Obligations.StepRunsDecodedCommand := fun _ _ _ hp hd _ =>
  ⟨fun h => (step_no_turn h).trans (coreStep_of_decode_ok hp hd),
    fun _ h => (step_core h).trans (coreStep_of_decode_ok hp hd)⟩

/-- Every command answers a next state: its effect completed, or the error completion. -/
theorem exists_exec (i : Instr) (s : State) : ∃ t, exec i s = .next t ∧
    (t = (runBody i s).complete i.op ∨ ∃ e, t = s.errorComplete i.op e) := by
  by_cases hr : Runs i s
  · exact ⟨_, exec_of_runs hr, .inl rfl⟩
  · obtain ⟨e, he⟩ := exec_of_not_runs hr
    exact ⟨_, he, .inr ⟨e, rfl⟩⟩

/-- Settles O10: a command completes or takes an error, and each completion is the record it sets. -/
theorem completionAndPreciseErrors : Obligations.CompletionAndPreciseErrors := by
  refine ⟨fun _ _ => rfl, fun _ _ _ => rfl, ⟨rfl, rfl, rfl, rfl, rfl⟩, fun i s => ?_⟩
  obtain ⟨t, ht, rfl | ⟨e, rfl⟩⟩ := exists_exec i s
  · exact ⟨_, ht, .inl ⟨rfl, rfl, rfl, rfl, rfl⟩⟩
  · exact ⟨_, ht, .inr ⟨e, rfl⟩⟩

/-- Settles O13: NOP has no body, and its row fixes all of the word. -/
theorem nopCompletes : Obligations.NopCompletes :=
  ⟨rfl, raisesBadOp_of_rowOfOp rfl (by decide) (by decide), fun _ => rfl, rfl⟩

/-! ### The turns still to come (R62, R127, R157) -/

theorem runBody_agenda (i : Instr) (s : State) : (runBody i s).agenda = s.agenda := by
  cases i <;> rfl

/-- After the core's turn nothing is pending, and the turns still to come are as before. -/
theorem exists_coreStep (s : State) :
    ∃ t, coreStep s = .next t ∧ t.agenda = s.agenda ∧ t.busy = false := by
  cases hp : s.pendcmd with
  | none => exact ⟨s, coreStep_idle hp, rfl, by rw [State.busy, hp]; rfl⟩
  | some w =>
    cases hd : decode w with
    | error e => exact ⟨_, coreStep_of_decode_error hp hd, rfl, rfl⟩
    | ok i =>
      obtain ⟨t, ht, rfl | ⟨e, rfl⟩⟩ := exists_exec i s
      · exact ⟨_, (coreStep_of_decode_ok hp hd).trans ht, runBody_agenda i s, rfl⟩
      · exact ⟨_, (coreStep_of_decode_ok hp hd).trans ht, rfl, rfl⟩

theorem writeCtrl_agenda (s : State) (d : Word) : (s.writeCtrl d).agenda = s.agenda := by
  unfold State.writeCtrl
  split <;> rfl

theorem hostWrite_agenda (s : State) (a : Addr) (d : Word) : (s.hostWrite a d).agenda = s.agenda := by
  obtain ⟨e, -, he⟩ | ⟨hn, he⟩ := hostWrite_cases s a d
  · rw [he]
    rfl
  · rw [he, respond_agenda]
    obtain ⟨-, hl⟩ | hl | hl | ⟨-, hl⟩ | ⟨-, hl⟩ | ⟨-, hl⟩ | ⟨-, hl⟩ | ⟨x, -, -, hl⟩ :=
      writeLoc_cases hn d <;> rw [hl]
    case inr.inr.inr.inl => exact writeCtrl_agenda s d
    all_goals rfl

theorem hostAccess_agenda (s : State) (a : Access) : (s.hostAccess a).agenda = s.agenda := by
  cases a with
  | write a d => exact hostWrite_agenda s a d
  | read a =>
    rw [State.hostAccess]
    obtain ⟨e, -, he⟩ | ⟨-, n, he⟩ := hostRead_cases s a <;> rw [he]
    all_goals rfl

/-- A step uses up the next turn. -/
theorem exists_step_of_turn {s : State} {turn : Turn} {ts : List Turn} (h : s.agenda = turn :: ts) :
    ∃ t, step s = .next t ∧ t.agenda = ts := by
  cases turn with
  | core =>
    obtain ⟨t, ht, ha, -⟩ := exists_coreStep { s with agenda := ts }
    exact ⟨t, (step_core h).trans ht, ha⟩
  | host a => exact ⟨_, step_host h, hostAccess_agenda _ a⟩
  | hardReset => exact ⟨_, step_hardReset h, rfl⟩

/-- Settles O9, by induction on the turns still to come: each step uses one up, and the last step is the
core's. -/
theorem coreStepEventuallyTaken : Obligations.CoreStepEventuallyTaken := by
  intro s
  induction hts : s.agenda generalizing s with
  | nil =>
    obtain ⟨t, ht, ha, hb⟩ := exists_coreStep s
    have hstep : core.step s = .next t := (step_no_turn hts).trans ht
    exact ⟨t, by simp only [List.length_nil, Host.Core.run, hstep], ha.trans hts, hb⟩
  | cons turn ts ih =>
    obtain ⟨u, hu, ha⟩ := exists_step_of_turn hts
    obtain ⟨t, ht, hend⟩ := ih u ha
    have hstep : core.step s = .next u := hu
    exact ⟨t, by simpa only [List.length_cons, Host.Core.run, hstep] using ht, hend⟩

/-! ### ENCODE and the six commands (R131) -/

theorem runs_complete {i : Instr} {s : State} (op : BitVec 8) (h : Runs i s) : Runs i (s.complete op) := by
  cases i <;> exact h

/-- What a command leaves does not depend on how the command before it completed. -/
theorem runBody_complete (i : Instr) (s : State) (op op' : BitVec 8) :
    (runBody i (s.complete op)).complete op' = (runBody i s).complete op' := by
  cases i <;> rfl

theorem exec_complete {i : Instr} {s : State} (h : Runs i s) (op : BitVec 8) :
    exec i (s.complete op) = .next ((runBody i s).complete i.op) := by
  rw [exec_of_runs (runs_complete op h), runBody_complete]

/-- Settles O38: each command after the first has its effect on the state that the one before completed. -/
theorem encodeEqualsStepwise : Obligations.EncodeEqualsStepwise := by
  intro s hv hl
  have hminit := exec_complete (i := .minit) (s := s.eccodeBody) hv 0x22
  have hmfunc := exec_complete (i := .mfunc) (s := s.eccodeBody.minitBody) ⟨hv, rfl⟩ 0x30
  have hmdata := exec_complete (i := .mdata) (s := s.eccodeBody.minitBody.mfuncBody) ⟨hv, rfl, rfl⟩ 0x31
  have hmeval := exec_complete (i := .meval) (s := s.eccodeBody.minitBody.mfuncBody.mdataBody) ⟨hv, rfl⟩ 0x32
  have hmapsel : exec .mapsel (s.eccodeBody.minitBody.mfuncBody.mdataBody.mevalBody.complete 0x41) =
      .next (s.encodeBody.complete 0x43) :=
    exec_complete (i := .mapsel) (s := s.eccodeBody.minitBody.mfuncBody.mdataBody.mevalBody) ⟨hv, rfl, rfl⟩ _
  have hencode : exec .encode s = .next (s.encodeBody.complete 0x50) := exec_of_runs (i := .encode) ⟨hv, hl⟩
  rw [← complete_with_lastop s.encodeBody 0x43] at hencode
  exact ⟨_, _, _, _, _, _, exec_of_runs (i := .eccode) ⟨hv, hl⟩, hminit, hmfunc, hmdata, hmeval, hmapsel, rfl,
    hencode⟩


/-! ### The finished symbol (R131, R132) -/

/-- The matrix of a version after MINIT, MFUNC and MDATA: the function patterns and the codewords. -/
def placedMat (v : Nat) (cw : List Byte) : Mat :=
  placeData (Mat.setAll clearedMat (functionWrites v)) (sideOf v) cw

/-- The matrix of a finished symbol: placed, masked and with its information (R113). -/
def symbolMat (v : Nat) (l : BitVec 2) (m : BitVec 3) (cw : List Byte) : Mat :=
  candidate (placedMat v cw) v l m

theorem clearedMat_wf : Mat.Wf clearedMat := replicate_wf _

theorem functions_wf (v : Nat) : Mat.Wf (Mat.setAll clearedMat (functionWrites v)) := Mat.setAll_wf clearedMat_wf _

theorem placedMat_wf (v : Nat) (cw : List Byte) : Mat.Wf (placedMat v cw) := placeData_wf (functions_wf v) _ _

/-- A data cell of a symbol: its bit of the codewords, inverted where the mask says so (R105, R108). -/
theorem maskCell_data (m : BitVec 3) (i j : Nat) (bit : Bool) :
    maskCell m i j (MCell.data bit) = MCell.data (bit ^^ maskBit m i j) := rfl

/-- The placed bit is that of the codewords, and 0 for a remainder bit. -/
theorem placedBit_eq (cw : List Byte) (i : Nat) : placedBit cw i = (cw.flatMap msbFirst)[i]?.getD false := by
  rw [getElem?_flatMap_msbFirst, placedBit]
  split
  next h =>
    have h8 : i / 8 < cw.length := by omega
    simp [h8]
  next h =>
    have h8 : cw.length ≤ i / 8 := by omega
    simp [h8]

section Symbol

variable {v : Nat} (hv : 1 ≤ v ∧ v ≤ 40)
include hv

/-- The cells that MDATA fills after MFUNC are those of the geometry (R105). -/
theorem dataCells_functions : dataCells (Mat.setAll clearedMat (functionWrites v)) (sideOf v) = dataOrder v := by
  refine List.filter_congr fun ⟨r, c⟩ _ => congrArg not (Bool.eq_iff_iff.2 ?_)
  rw [func_functionWrites clearedMat_wf cell_replicate_unset hv, List.any_eq_true]
  simp [Named]

variable (l : BitVec 2) (m : BitVec 3) (cw : List Byte)

/-- A cell inside the symbol that holds no information is masked. -/
theorem cell_symbolMat_other {r c : Nat} (hr : r < sideOf v) (hc : c < sideOf v) (hn : (r, c) ∉ reservedCells v) :
    Mat.cell (symbolMat v l m cw) r c = maskCell m r c (Mat.cell (placedMat v cw) r c) := by
  have hb := (sideOf_bounds hv).2
  rw [symbolMat, cell_candidate_other (placedMat_wf v cw) l m hn,
    if_pos ⟨hr, hc, hr.trans_le hb, hc.trans_le hb⟩]

/-- Placing data and masking leave the coloured function cells (R103, R108). -/
theorem cell_symbolMat_function {r c : Nat} {x : MCell} (hw : ((r, c), x) ∈ functionWrites v) (hx : x.set = true) :
    Mat.cell (symbolMat v l m cw) r c = x := by
  obtain ⟨hr, hc⟩ := functionWrites_inside hv _ hw
  have hfunc : x.func = true := functionWrites_func _ hw
  have hcell := cell_functionWrites clearedMat_wf hv hw
  have hn : (r, c) ∉ reservedCells v := fun h => by
    rw [show x = functionContent v (r, c) from functionWrites_content hv _ hw, functionContent, if_pos h] at hx
    cases hx
  have hplaced : Mat.cell (placedMat v cw) r c = x := by
    refine (cell_placeData_other (functions_wf v) cw fun h => ?_).trans hcell
    rw [mem_dataCells hv, hcell, hfunc] at h
    cases h.2
  rw [cell_symbolMat_other hv l m cw hr hc hn, hplaced, maskCell, if_pos hfunc]

/-- The i-th data cell holds bit i of the codewords, masked (R105, R108). -/
theorem cell_symbolMat_data {i r c : Nat} (hp : (dataOrder v)[i]? = some (r, c)) :
    Mat.cell (symbolMat v l m cw) r c =
      MCell.data ((cw.flatMap msbFirst)[i]?.getD false ^^ maskBit m r c) := by
  rw [← dataCells_functions hv] at hp
  have hb := (sideOf_bounds hv).2
  obtain ⟨⟨hr, hc, -⟩, hfunc⟩ := (mem_dataCells hv).1 (List.mem_of_getElem? hp)
  have hn : (r, c) ∉ reservedCells v := fun h => by
    rw [(func_functionWrites clearedMat_wf cell_replicate_unset hv).2 (reserved_named h)] at hfunc
    cases hfunc
  have hplaced : Mat.cell (placedMat v cw) r c = MCell.data (placedBit cw i) :=
    cell_placeData_getElem? (functions_wf v) cw (nodup_dataCells _ v) hp (hr.trans_le hb) (hc.trans_le hb)
  rw [cell_symbolMat_other hv l m cw hr hc hn, hplaced, maskCell_data, placedBit_eq]

end Symbol

/-! ### What ENCODE leaves (R131, R132) -/

section Encode

variable {s : State} (hm : Memory.Wf s.mem) (hv : s.VersionLegal)
include hm hv

/-- MDATA finds in CW_BUF what ECCODE has put there. -/
theorem eccodeBody_memRead : s.eccodeBody.memRead cwBase 0 s.opRow.ntotal = s.codewords := by
  rw [← length_codewords hv]
  exact memRead_fillBuffer hm cwBase cwBufSize s.codewords

/-- The matrix that the penalties are of. -/
theorem encode_placedMat :
    s.eccodeBody.minitBody.mfuncBody.mdataBody.mat = placedMat s.opV s.codewords := by
  rw [mdataBody_mat, mfuncBody_mat, minitBody_mat, placedMat, ← eccodeBody_memRead hm hv]
  rfl

theorem encodeBody_mat :
    s.encodeBody.mat = symbolMat s.opV s.cfg.level s.encodeBody.maskSel.applied s.codewords := by
  rw [symbolMat, ← encode_placedMat hm hv]
  exact mapplyBody_mat _ _

/-- CW_BUF after ENCODE. -/
theorem encodeBody_memRead : s.encodeBody.memRead cwBase 0 4096 =
    s.codewords ++ List.replicate (4096 - s.codewords.length) 0 :=
  memRead_filled hm (length_codewords_le hv) rfl

end Encode

@[simp] theorem encodeBody_penvalid (s : State) : s.encodeBody.penvalid = 0xFF := rfl

/-- The state with no matrix made. -/
def State.withoutMatrix (s : State) : State :=
  { s with mat := clearedMat, status := { s.status with mstage := 0 } }

/-- The matrix before ENCODE does not matter: MINIT clears it. -/
theorem withoutMatrix_encodeBody (s : State) : s.withoutMatrix.encodeBody = s.encodeBody := rfl

/-- ENCODE leaves the matrix as its stage says, whatever it was before. -/
theorem encodeBody_stage {s : State} (hm : Memory.Wf s.mem) (hr : Runs .encode s) :
    s.encodeBody.OutsideUnset ∧ s.encodeBody.MatrixAsStage := by
  have hstart : s.withoutMatrix.Wf ∧ s.withoutMatrix.OutsideUnset ∧ s.withoutMatrix.MatrixAsStage :=
    ⟨⟨hm, clearedMat_wf⟩, outsideUnset_zero rfl, matrixAsStage_zero rfl⟩
  rw [← withoutMatrix_encodeBody]
  exact (encode_chain matrixAsStage_kept.body (s := s.withoutMatrix) hr hstart).2

/-- Settles O39: the cells of the finished symbol by region; that every cell is set, and none outside, is the
invariant of the stages. -/
theorem encodeFinishesTheSymbol : Obligations.EncodeFinishesTheSymbol := by
  refine fun s => ⟨fun hv => if_pos ((cfgIllegal_eq_true s).2 hv), fun hv hl => ?_, fun hm hv hl => ?_⟩
  · exact second_check_fails ((cfgIllegal_eq_false s).2 hv) (mt (lenWrong_eq_false s).1 hl)
  · obtain ⟨hout, -, -, -, -, hfinal⟩ := encodeBody_stage hm ⟨hv, hl⟩
    have hset : ∀ r c, r < s.opSide → c < s.opSide → (Mat.cell s.encodeBody.mat r c).set = true :=
      hfinal rfl
    have hunset : ∀ r c, s.opSide ≤ r ∨ s.opSide ≤ c → Mat.cell s.encodeBody.mat r c = MCell.unset :=
      hout (by rw [encodeBody_mstage]; decide)
    refine ⟨s.encodeBody.complete 0x50, exec_of_runs (i := .encode) ⟨hv, hl⟩,
      rfl, rfl, rfl, rfl, rfl, rfl, rfl, ?_⟩
    rw [complete_mat, complete_maskSel]
    refine ⟨hset, ?_, ?_, ?_, ?_, hunset⟩ <;> rw [encodeBody_mat hm hv]
    · exact fun ⟨⟨r, c⟩, x⟩ => cell_symbolMat_function hv _ _ _
    · exact fun k p => cell_candidate_format (placedMat_wf _ _) hv _ _
    · exact fun h7 k p => cell_candidate_version (placedMat_wf _ _) hv _ _ h7
    · exact fun i ⟨r, c⟩ => cell_symbolMat_data hv _ _ _

/-! ### ENCODE reads CFG, DLEN and the data codewords alone (R131) -/

/-- The scores are computed from the matrix and CFG (R113). -/
theorem penaltyOf_congr {s s' : State} (hmat : s'.mat = s.mat) (hcfg : s'.cfg = s.cfg) :
    s'.penaltyOf = s.penaltyOf := by
  funext m
  rw [State.penaltyOf, State.penaltyOf, State.opV, State.opV, hmat, hcfg]

/-- MEVAL selects the mask and sets the penalty registers from the scores (R123). -/
theorem mevalBody_congr {s s' : State} (hp : s'.penaltyOf = s.penaltyOf) :
    s'.mevalBody.maskSel.sel = s.mevalBody.maskSel.sel ∧ s'.mevalBody.pen = s.mevalBody.pen ∧
      s'.mevalBody.pd1 = s.mevalBody.pd1 ∧ s'.mevalBody.pd2 = s.mevalBody.pd2 ∧
      s'.mevalBody.pd3 = s.mevalBody.pd3 ∧ s'.mevalBody.pd4 = s.mevalBody.pd4 := by
  simp only [State.mevalBody, hp, setDetail_maskSel, setSelv_maskSel, setDetail_pen, setSelv_pen, setDetail_pd1,
    setDetail_pd2, setDetail_pd3, setDetail_pd4, and_self]

/-- The codewords are computed from CFG and the data codewords (R92). -/
theorem codewords_congr {s s' : State} (hrow : s'.opRow = s.opRow)
    (hd : s'.memRead dataBase 0 s.opRow.ndata = s.memRead dataBase 0 s.opRow.ndata) :
    s'.codewords = s.codewords := by
  rw [State.codewords, State.codewords, hrow, hd]

/-- Settles O40: the matrix that the penalties are of is computed from CFG and the codewords, and so are the
scores, the selected mask and the finished matrix. -/
theorem encodeIsPure : Obligations.EncodeIsPure := by
  intro s s' hm hm' hv hl hcfg hdlen hd
  have hversion : s'.opV = s.opV := congrArg (fun c : Cfg => c.version.toNat) hcfg
  have hrow : s'.opRow = s.opRow := congrArg (fun c : Cfg => blockRow c.version.toNat c.level.toNat) hcfg
  have hcw := codewords_congr hrow hd
  have hv' : s'.VersionLegal := by rwa [State.VersionLegal, hversion]
  have hl' : s'.LenRight := by rwa [State.LenRight, hdlen, hrow]
  have hplaced : s'.eccodeBody.minitBody.mfuncBody.mdataBody.mat =
      s.eccodeBody.minitBody.mfuncBody.mdataBody.mat := by
    rw [encode_placedMat hm' hv', encode_placedMat hm hv, hversion, hcw]
  obtain ⟨hsel, hpen, hpd1, hpd2, hpd3, hpd4⟩ := mevalBody_congr (penaltyOf_congr hplaced hcfg)
  have hmask : s'.encodeBody.maskSel = s.encodeBody.maskSel := congrArg (fun m => MaskSel.mk m m m) hsel
  have hmat : (s'.encodeBody.complete 0x50).mat = (s.encodeBody.complete 0x50).mat := by
    rw [complete_mat, complete_mat, encodeBody_mat hm' hv', encodeBody_mat hm hv, hversion, hcfg, hmask, hcw]
  have hread : (s'.encodeBody.complete 0x50).memRead cwBase 0 4096 =
      (s.encodeBody.complete 0x50).memRead cwBase 0 4096 := by
    rw [complete_memRead, complete_memRead, encodeBody_memRead hm' hv', encodeBody_memRead hm hv, hcw]
  exact ⟨_, _, exec_of_runs (i := .encode) ⟨hv, hl⟩, exec_of_runs (i := .encode) ⟨hv', hl'⟩,
    hmat, hread, hpen, hpd1, hpd2, hpd3, hpd4, hmask,
    (encodeBody_penvalid s').trans (encodeBody_penvalid s).symm,
    congrArg₂ fmtbits (congrArg Cfg.level hcfg) hsel, congrArg (fun v => if v ≥ 7 then verbits v else 0) hversion,
    congrArg (fun v => BitVec.ofNat 8 (sideOf v)) hversion,
    congrArg (fun r : BlockRow => BitVec.ofNat 12 r.ntotal) hrow,
    congrArg (fun r : BlockRow => BitVec.ofNat 12 r.ndata) hrow, congrArg BlockRow.blocksWord hrow,
    congrArg (fun r : BlockRow => BitVec.ofNat 3 r.remBits) hrow⟩
end Sys2Proof.Machine
end

section
/-! SUPPORT. When a command runs and with which error it ends when it does not, and the interrupt line: O11,
O12 and O48 (spec 60_exceptions.md R133, R134 and R139). -/

namespace Sys2Proof.Machine

/-! ### Which commands run (R133, R134) -/

/-- Settles O11: a command completes without ERR when it runs and with ERR when it does not. -/
theorem commandRunsExactlyWhenAllowed : Obligations.CommandRunsExactlyWhenAllowed := by
  intro i s t ht
  obtain ⟨hr, rfl⟩ | ⟨hr, e, rfl⟩ := exec_cases ht
  · exact iff_of_true rfl hr
  · exact iff_of_false Bool.noConfusion hr

/-! ### Stage preconditions (R134) -/

/-- The outcome of a command is not the error SEQ. -/
def NeverSeq (o : Host.Outcome State Fault Refusal) : Prop :=
  ∀ t, o = .next t → t.status.ecode ≠ CmdError.seq.code

theorem neverSeq_complete (s : State) (op : BitVec 8) : NeverSeq (.next (s.complete op)) := by
  rintro t ⟨⟩
  exact show (0 : BitVec 4) ≠ CmdError.seq.code by decide

theorem neverSeq_errorComplete (s : State) (op : BitVec 8) {e : CmdError} (he : e.code ≠ CmdError.seq.code) :
    NeverSeq (.next (s.errorComplete op e)) := by
  rintro t ⟨⟩
  exact he

/-- A check for another error than SEQ leaves it to the rest of the command. -/
theorem neverSeq_check {c : Prop} [Decidable c] {s : State} {op : BitVec 8} {e : CmdError}
    {rest : Host.Outcome State Fault Refusal} (he : e.code ≠ CmdError.seq.code) (hrest : NeverSeq rest) :
    NeverSeq (if c then .next (s.errorComplete op e) else rest) := by
  split
  · exact neverSeq_errorComplete s op he
  · exact hrest

/-- The checks of the commands without a stage precondition are for BADCFG, BADARG and LEN. -/
theorem neverSeq_exec (s : State) (n k : BitVec 8) :
    ∀ i ∈ [Instr.minit, .nop, .gfadd, .gfmul, .gfexp, .gflog, .rsgen n, .rsenc n k, .eccode, .encode],
      NeverSeq (exec i s) := by
  have hdone := neverSeq_complete
  have hbadCfg : CmdError.badCfg.code ≠ CmdError.seq.code := by decide
  have hbadArg : CmdError.badArg.code ≠ CmdError.seq.code := by decide
  have hlen : CmdError.len.code ≠ CmdError.seq.code := by decide
  simp only [List.forall_mem_cons]
  refine ⟨?minit, hdone _ _, hdone _ _, hdone _ _, hdone _ _, ?gflog, ?rsgen, ?rsenc, ?eccode, ?encode,
    List.forall_mem_nil _⟩
  case minit => exact neverSeq_check hbadCfg (hdone _ _)
  case gflog | rsgen | rsenc => exact neverSeq_check hbadArg (hdone _ _)
  case eccode | encode => exact neverSeq_check hbadCfg (neverSeq_check hlen (hdone _ _))

/-- The nine commands that use CFG check it first. -/
theorem exec_badCfg {s : State} (hv : ¬ s.VersionLegal) (m : BitVec 3) :
    ∀ i ∈ [Instr.eccode, .minit, .mfunc, .mdata, .mscore m, .meval, .mapply m, .mapsel, .encode],
      exec i s = .next (s.errorComplete i.op .badCfg) := by
  have hcfg : s.cfgIllegal = true := (cfgIllegal_eq_true s).2 hv
  simp only [List.forall_mem_cons]
  exact ⟨if_pos hcfg, if_pos hcfg, if_pos hcfg, if_pos hcfg, if_pos hcfg, if_pos hcfg, if_pos hcfg,
    if_pos hcfg, if_pos hcfg, List.forall_mem_nil _⟩

/-- Settles O12: the check of CFG comes first, the stage precondition second, and the other commands have no
check for SEQ. -/
theorem stagePreconditions : Obligations.StagePreconditions := by
  refine fun s m => ⟨fun hv => exec_badCfg hv m, fun hv => ?_, neverSeq_exec s⟩
  have hcfg := (cfgIllegal_eq_false s).2 hv
  refine ⟨fun h => second_check_fails hcfg (mt (seqMfunc_eq_false s).1 h),
    fun h => second_check_fails hcfg (mt (seqMdata_eq_false s).1 h), fun h => ?_,
    fun h => second_check_fails hcfg (mt (seqMapsel_eq_false s).1 h)⟩
  have hplaced := mt (seqPlaced_eq_false s).1 h
  exact ⟨second_check_fails hcfg hplaced, second_check_fails hcfg hplaced, second_check_fails hcfg hplaced⟩

/-! ### The interrupt line (R139) -/

theorem irq_eq_true_iff (s : State) :
    s.irq = true ↔ s.ie = true ∧ (s.status.done = true ∨ s.status.err = true ∨ s.status.berr = true) := by
  simp only [State.irq, Bool.and_eq_true, Bool.or_eq_true, or_assoc]

/-- DONE alone brings the line to IE. -/
theorem irq_of_done {s : State} (h : s.status.done = true) : s.irq = s.ie := by
  rw [State.irq, h, Bool.true_or, Bool.true_or, Bool.and_true]

/-- With the three flags clear the line is low. -/
theorem irq_of_flags_clear {s : State} (hd : s.status.done = false) (he : s.status.err = false)
    (hb : s.status.berr = false) : s.irq = false := by
  rw [State.irq, hd, he, hb]
  exact Bool.and_false _

theorem runBody_ie (i : Instr) (s : State) : (runBody i s).ie = s.ie := by
  cases i <;> rfl

/-- Settles O48: every command ends with DONE and keeps IE, 0x0E acknowledges the three flags, and issuing a
command clears DONE and ERR. -/
theorem interruptLine : Obligations.InterruptLine := by
  refine fun s => ⟨irq_eq_true_iff s, fun i t ht => ?_, ?_, fun hb hberr w => ?_⟩
  · obtain ⟨-, rfl⟩ | ⟨-, e, rfl⟩ := exec_cases ht
    · exact (irq_of_done rfl).trans (runBody_ie i s)
    · exact irq_of_done rfl
  · rw [hostWrite_of_loc (.reg .status) 0x0E rfl (by decide) (by decide) rfl (.inr rfl)]
    exact irq_of_flags_clear (Bool.and_false _) (Bool.and_false _) (Bool.and_false _)
  · rw [hostWrite_of_loc (.reg .cmd) w rfl (by decide) (by decide) rfl (.inl hb)]
    exact irq_of_flags_clear rfl rfl hberr

end Sys2Proof.Machine
end

section
/-! SUPPORT. Reset, soft and hardware, and the step that always answers: O8, O49 and O50 (spec
70_reset_and_hazards.md R147, R149, R158). -/

namespace Sys2Proof.Machine

/-! ### Every step answers (R158) -/

/-- Settles O8: a step is the next turn, or the core's when no turn is left, and both answer a next state,
as every command does. -/
theorem everyStepHasNextState : Obligations.EveryStepHasNextState := by
  refine ⟨fun s => ?_, fun i s => (exists_exec i s).imp fun _ => And.left⟩
  cases hts : s.agenda with
  | nil =>
    obtain ⟨t, ht, -⟩ := exists_coreStep s
    exact ⟨t, (step_no_turn hts).trans ht⟩
  | cons turn ts => exact (exists_step_of_turn hts).imp fun _ => And.left

/-! ### The registers after a reset (R18, R147, R149) -/

/-- Every register but ID and REV reads 0 in the reset state. -/
theorem reset_readReg {r : Reg} (hid : r ≠ .id) (hrev : r ≠ .rev) : State.reset.readReg r = 0 := by
  cases r with
  | id => exact absurd rfl hid
  | rev => exact absurd rfl hrev
  | pen m => exact Vector.getElem_replicate _
  | _ => rfl

@[simp] theorem respond_readReg (s : State) (d : Word) (ok : Bool) (r : Reg) :
    (s.respond d ok).readReg r = s.readReg r := by
  cases r <;> rfl

@[simp] theorem softReset_readReg (s : State) (r : Reg) : s.softReset.readReg r = State.reset.readReg r := by
  cases r <;> rfl

@[simp] theorem hardReset_readReg (s : State) (r : Reg) : s.hardReset.readReg r = State.reset.readReg r := by
  cases r <;> rfl

/-! ### Soft reset (R149) -/

/-- CTRL is never locked, so a write with bit 1 set is a soft reset whether or not a command is pending. -/
theorem hostWrite_ctrl_softReset (s : State) {d : Word} (hd : d.getLsbD 1 = true) :
    s.hostWrite 0x010 d = s.softReset.respond 0 true := by
  rw [hostWrite_of_loc (.reg .ctrl) d rfl (by decide) (by decide) rfl (.inr rfl), State.writeLoc,
    State.writeCtrl, if_pos hd]

/-- Settles O49: the write is the soft reset, which keeps what a byte of a buffer or of MAT is read from. -/
theorem softResetKeepsBuffers : Obligations.SoftResetKeepsBuffers := by
  intro s d hd
  rw [hostWrite_ctrl_softReset s hd]
  have hregs (r : Reg) : (s.softReset.respond 0 true).readReg r = State.reset.readReg r := by
    rw [respond_readReg, softReset_readReg]
  exact ⟨rfl, hregs, rfl, rfl, fun _ => rfl, rfl, 0, rfl⟩

/-! ### Hardware reset (R147) -/

/-- Settles O50: a hardware reset leaves the registers of the reset state, whose flags and IE are 0. -/
theorem hardwareResetValues : Obligations.HardwareResetValues := by
  rintro t (rfl | ⟨s, rfl⟩)
  · exact ⟨rfl, rfl, fun _ => reset_readReg, rfl, rfl, rfl, irq_of_flags_clear rfl rfl rfl, rfl⟩
  · have hregs (r : Reg) (hid : r ≠ .id) (hrev : r ≠ .rev) : s.hardReset.readReg r = 0 :=
      (hardReset_readReg s r).trans (reset_readReg hid hrev)
    exact ⟨rfl, rfl, hregs, rfl, rfl, rfl, irq_of_flags_clear rfl rfl rfl, rfl⟩

end Sys2Proof.Machine
end
